-- ==== Sys2Proof/Word.lean ====
section
/-!
DEFINITION. The words of the block: widths of 00_scope.md rule R5 ("value for this hardware").
-/

namespace Sys2Proof

/-- An address: `ADDR_W = 64` bits (R5, R53); arithmetic on it is modulo `2^64`. -/
abbrev Addr := BitVec 64

/-- A transaction id: `ID_W = 8` bits (R5, R88). -/
abbrev Id := BitVec 8

/-- A burst length field, beats minus one: `LEN_W = 8` bits (R5, R82). -/
abbrev Len := BitVec 8

/-- One byte of the Block Store or of a completion (R50, R87). -/
abbrev Byte := BitVec 8

/-- One 32-bit data word of a beat (R56). -/
abbrev DataWord := BitVec 32

/-- The operation-select vector (R83). -/
abbrev Osv := BitVec 32

end Sys2Proof
end

