-- ==== Sys2Proof/Config.lean ====
section
/-!
DEFINITION. The configuration record of 00_scope.md rule R5, the environment's steps (rules R210, R86) and the two
free values: what the backend answers and what the environment does next.
-/

namespace Sys2Proof

/-- The evaluation modes (R160). -/
inductive Mode where
  | functional
  | atomic
  | timing
deriving DecidableEq, Repr, Inhabited

/-- The two-bit encoding of a mode (R80); `11` is reserved and is no mode. -/
def Mode.bits : Mode → BitVec 2
  | .functional => 0
  | .atomic => 1
  | .timing => 2

/-- Where ATOMIC-mode read data comes from (R5 `ATOMIC_RDATA_SRC`, R164). -/
inductive RdataSrc where
  | backend
  | blockStore
deriving DecidableEq, Repr, Inhabited

/-- The configuration values of R5 other than `MODE`. -/
structure Params where
  dataBytes : Nat
  blockBytes : Nat
  rLatency : Nat
  rDelay : Nat
  maxInflight : Nat
  inflightCeil : Nat
  rdataSrc : RdataSrc
deriving DecidableEq, Repr, Inhabited

/-- The configuration record `cfg` (R5, R23). -/
structure Config extends Params where
  mode : Mode
deriving DecidableEq, Repr, Inhabited

/-- `NWORDS = DATA_BYTES / 4` (R5). -/
def Params.nwords (p : Params) : Nat := p.dataBytes / 4

/-- `W_EFF = min(MAX_INFLIGHT_REQ, INFLIGHT_CEIL)` (R151): a request above the ceiling is clamped. -/
def Params.wEff (p : Params) : Nat := min p.maxInflight p.inflightCeil

/-- The legal values of R5: `DATA_BYTES` a power of two and at least 4, `BLOCK_BYTES` positive; every other value is
a natural number with no bound (R221: a zero window, zero latency and zero gap are legal). -/
def Params.legal (p : Params) : Bool :=
  decide (2 ^ p.dataBytes.log2 = p.dataBytes) && decide (4 ≤ p.dataBytes) && decide (1 ≤ p.blockBytes)

/-- The example configuration C0 of 95_test_vectors.md, `BLOCK_BYTES` 64. DESIGN CHOICE, unsafe (log 4): the spec leaves
every value but `ATOMIC_RDATA_SRC` open. -/
def Params.example : Params :=
  { dataBytes := 4, blockBytes := 64, rLatency := 2, rDelay := 1, maxInflight := 4, inflightCeil := 16,
    rdataSrc := .backend }

/-- One step of the environment (R210, R81), in the encoding of R86: a TICK is its input control word and the three
payloads, packed as R70, R71 and R73 pack them; a COMPLETE is R87's `completeRead`; a RESET is the two MODE bits of
R80 and the other configuration values; a QUERY is `requestsOnFlight()`. -/
inductive Stimulus where
  | tick (icw : BitVec 6) (aw : BitVec 80) (w : Nat) (ar : BitVec 80)
  | complete (addr : Addr) (bytes : List Byte)
  | reset (mode : BitVec 2) (p : Params)
  | query
deriving DecidableEq, Repr, Inhabited

/-- FREE VALUE (log 3): the `n`-th byte that the backend answers to an ATOMIC-mode read. R55: "any `n` bytes, under
no law". -/
opaque Config.backendByte : Nat → Byte

/-- FREE VALUE (log 2): what the environment does next where no step was placed. R210: "Which step comes next is
chosen by the environment." -/
opaque Config.environment : Nat → Stimulus

end Sys2Proof
end

