-- ==== Sys2Proof/Syntax.lean ====
section
/-!
DEFINITION. The operations of the block: one constructor of `Instr` per row of spec/opcode_table.json, with the operands
that the row's rule takes from outside the state (payloads, completions, configurations, a cycle's inputs).
-/

namespace Sys2Proof

/-- The payload of an AW or AR handshake (R70, R73). -/
structure AddrReq where
  id : Id
  addr : Addr
  len : Len
deriving DecidableEq, Repr, Inhabited

/-- The payload of a W handshake (R71), and the WriteDataBeat record (R76): `NWORDS` words, `DATA_BYTES` strobe bits
(entry `i` is `WSTRB[i]`), and WLAST. -/
structure WBeat where
  data : List DataWord
  strb : List Bool
  last : Bool
deriving DecidableEq, Repr, Inhabited

/-- The input signals of one cycle (R20). -/
structure Inputs where
  awvalid : Bool
  aw : AddrReq
  wvalid : Bool
  w : WBeat
  bready : Bool
  arvalid : Bool
  ar : AddrReq
  rready : Bool
deriving DecidableEq, Repr, Inhabited

/-- The formats of opcode_table.json: the GATE and the eight slots of a tick (R84, R161), and the other step kinds. -/
inductive Format where
  | gate | aw | w | ar | pair | drain | arrdy | r | b | complete | reset | query
deriving DecidableEq, Repr, Inhabited

/-- The operations, one per row of spec/opcode_table.json. -/
inductive Instr where
  /-- TICK (R161). -/
  | tick (inp : Inputs)
  /-- TICK_FAULTED (R162). -/
  | tickFaulted
  /-- AW_ACCEPT (R102). -/
  | awAccept (p : AddrReq)
  /-- AW_IDLE (R103). -/
  | awIdle
  /-- AW_IDLE_NOTREADY (R103). -/
  | awIdleNotready
  /-- W_ACCEPT (R104). -/
  | wAccept (w : WBeat)
  /-- W_IDLE (R105). -/
  | wIdle
  /-- W_IDLE_NOTREADY (R105). -/
  | wIdleNotready
  /-- AR_ACCEPT_F (R163). -/
  | arAcceptF (p : AddrReq)
  /-- AR_ACCEPT_A (R164). -/
  | arAcceptA (p : AddrReq)
  /-- AR_ACCEPT_T (R141). -/
  | arAcceptT (p : AddrReq)
  /-- AR_IDLE (R165). -/
  | arIdle
  /-- AR_IDLE_NOTREADY (R165). -/
  | arIdleNotready
  /-- WPAIR_BEAT (R107). -/
  | wpairBeat
  /-- WPAIR_LAST (R108). -/
  | wpairLast
  /-- WFAULT_EARLY (R109). -/
  | wfaultEarly
  /-- WFAULT_MISSING (R110). -/
  | wfaultMissing
  /-- WPAIR_IDLE_NOAW (R111). -/
  | wpairIdleNoaw
  /-- WPAIR_IDLE_NOW (R111). -/
  | wpairIdleNow
  /-- DRAIN_BEAT (R144). -/
  | drainBeat
  /-- DRAIN_LAST (R145). -/
  | drainLast
  /-- DRAIN_WAIT (R146). -/
  | drainWait
  /-- DRAIN_EMPTY (R147). -/
  | drainEmpty
  /-- DRAIN_SKIP (R166). -/
  | drainSkip
  /-- ARRDY_T_DRAINED (R148). -/
  | arrdyTDrained
  /-- ARRDY_T_OPEN (R149). -/
  | arrdyTOpen
  /-- ARRDY_T_FULL (R150). -/
  | arrdyTFull
  /-- ARRDY_SKIP (R166). -/
  | arrdySkip
  /-- R_XFER_SHIFT (R124). -/
  | rXferShift
  /-- R_FREE_SHIFT (R124). -/
  | rFreeShift
  /-- R_XFER_FILL (R125). -/
  | rXferFill
  /-- R_FREE_FILL (R125). -/
  | rFreeFill
  /-- R_HOLD (R126). -/
  | rHold
  /-- B_XFER (R167). -/
  | bXfer
  /-- B_HOLD (R168). -/
  | bHold
  /-- B_IDLE (R169). -/
  | bIdle
  /-- CPL_FILL (R142). -/
  | cplFill (a : Addr) (bytes : List Byte)
  /-- CPL_UNEXPECTED (R143). -/
  | cplUnexpected (a : Addr)
  /-- CPL_FAULTED (R202). -/
  | cplFaulted
  /-- RESET_F (R220). -/
  | resetF (p : Params)
  /-- RESET_A (R220). -/
  | resetA (p : Params)
  /-- RESET_T (R220). -/
  | resetT (p : Params)
  /-- RESET_RESERVED (R221). -/
  | resetReserved
  /-- QUERY_INFLIGHT (R152). -/
  | queryInflight
deriving DecidableEq, Repr

/-- The rows of spec/opcode_table.json by name, without operands. -/
inductive Opcode where
  | tick | tickFaulted
  | awAccept | awIdle | awIdleNotready
  | wAccept | wIdle | wIdleNotready
  | arAcceptF | arAcceptA | arAcceptT | arIdle | arIdleNotready
  | wpairBeat | wpairLast | wfaultEarly | wfaultMissing | wpairIdleNoaw | wpairIdleNow
  | drainBeat | drainLast | drainWait | drainEmpty | drainSkip
  | arrdyTDrained | arrdyTOpen | arrdyTFull | arrdySkip
  | rXferShift | rFreeShift | rXferFill | rFreeFill | rHold
  | bXfer | bHold | bIdle
  | cplFill | cplUnexpected | cplFaulted
  | resetF | resetA | resetT | resetReserved
  | queryInflight
deriving DecidableEq, Repr

/-- The row that an operation belongs to. -/
def Instr.opcode : Instr → Opcode
  | .tick _ => .tick
  | .tickFaulted => .tickFaulted
  | .awAccept _ => .awAccept
  | .awIdle => .awIdle
  | .awIdleNotready => .awIdleNotready
  | .wAccept _ => .wAccept
  | .wIdle => .wIdle
  | .wIdleNotready => .wIdleNotready
  | .arAcceptF _ => .arAcceptF
  | .arAcceptA _ => .arAcceptA
  | .arAcceptT _ => .arAcceptT
  | .arIdle => .arIdle
  | .arIdleNotready => .arIdleNotready
  | .wpairBeat => .wpairBeat
  | .wpairLast => .wpairLast
  | .wfaultEarly => .wfaultEarly
  | .wfaultMissing => .wfaultMissing
  | .wpairIdleNoaw => .wpairIdleNoaw
  | .wpairIdleNow => .wpairIdleNow
  | .drainBeat => .drainBeat
  | .drainLast => .drainLast
  | .drainWait => .drainWait
  | .drainEmpty => .drainEmpty
  | .drainSkip => .drainSkip
  | .arrdyTDrained => .arrdyTDrained
  | .arrdyTOpen => .arrdyTOpen
  | .arrdyTFull => .arrdyTFull
  | .arrdySkip => .arrdySkip
  | .rXferShift => .rXferShift
  | .rFreeShift => .rFreeShift
  | .rXferFill => .rXferFill
  | .rFreeFill => .rFreeFill
  | .rHold => .rHold
  | .bXfer => .bXfer
  | .bHold => .bHold
  | .bIdle => .bIdle
  | .cplFill _ _ => .cplFill
  | .cplUnexpected _ => .cplUnexpected
  | .cplFaulted => .cplFaulted
  | .resetF _ => .resetF
  | .resetA _ => .resetA
  | .resetT _ => .resetT
  | .resetReserved => .resetReserved
  | .queryInflight => .queryInflight

end Sys2Proof
end

