-- ==== Sys2Proof/WellFormed.lean ====
section
/-!
DEFINITION. Which operand values the formats of 30_encoding.md can write, for a bus of `db` bytes per beat.
-/

namespace Sys2Proof

/-- A W payload has `NWORDS` data words and `DATA_BYTES` strobe bits (R71, R76). -/
def WBeat.wellFormed (db : Nat) (w : WBeat) : Bool :=
  decide (w.data.length = db / 4) && decide (w.strb.length = db)

/-- The input signals of a cycle have the widths of R20. -/
def Inputs.wellFormed (db : Nat) (inp : Inputs) : Bool := inp.w.wellFormed db

/-- An operation's operands have the widths of R20, R71 and R87, and a RESET's configuration is legal (R6, R221). -/
def Instr.wellFormed (db : Nat) : Instr → Bool
  | .tick inp => inp.wellFormed db
  | .wAccept w => w.wellFormed db
  | .cplFill _ bytes => decide (bytes.length = db)
  | .resetF p => p.legal
  | .resetA p => p.legal
  | .resetT p => p.legal
  | .tickFaulted => true
  | .awAccept _ => true
  | .awIdle => true
  | .awIdleNotready => true
  | .wIdle => true
  | .wIdleNotready => true
  | .arAcceptF _ => true
  | .arAcceptA _ => true
  | .arAcceptT _ => true
  | .arIdle => true
  | .arIdleNotready => true
  | .wpairBeat => true
  | .wpairLast => true
  | .wfaultEarly => true
  | .wfaultMissing => true
  | .wpairIdleNoaw => true
  | .wpairIdleNow => true
  | .drainBeat => true
  | .drainLast => true
  | .drainWait => true
  | .drainEmpty => true
  | .drainSkip => true
  | .arrdyTDrained => true
  | .arrdyTOpen => true
  | .arrdyTFull => true
  | .arrdySkip => true
  | .rXferShift => true
  | .rFreeShift => true
  | .rXferFill => true
  | .rFreeFill => true
  | .rHold => true
  | .bXfer => true
  | .bHold => true
  | .bIdle => true
  | .cplUnexpected _ => true
  | .cplFaulted => true
  | .resetReserved => true
  | .queryInflight => true

end Sys2Proof
end

