-- ==== Sys2Proof/Decode.lean ====
section
/-!
DEFINITION. The operation decode: the opcode table (R83, R84, R89), the payload layouts (R70, R71, R73, R86, R87), a total
decoder that rejects by name, and the encoder written from the same tables.

An encoded operation (`Code`) is the format it is decoded in, its OSV, and its operand. The table alone selects no
row: one OSV matches one row in EACH format (R84), so the format is part of what is decoded (log 6).
-/

namespace Sys2Proof

/-- One row of spec/opcode_table.json: selected in its format when `OSV & mask = pattern` (R84). -/
structure Row where
  op : Opcode
  format : Format
  pattern : Osv
  mask : Osv
deriving DecidableEq, Repr

/-- The rows of format GATE (R89). -/
def gateRows : List Row :=
  [ ⟨.tick, .gate, 0x00000000, 0x0000001C⟩,
    ⟨.tickFaulted, .gate, 0x00000010, 0x0000001C⟩ ]

/-- The rows of format AW (R89). -/
def awRows : List Row :=
  [ ⟨.awAccept, .aw, 0x00000060, 0x0000007C⟩,
    ⟨.awIdle, .aw, 0x00000000, 0x0000003C⟩,
    ⟨.awIdleNotready, .aw, 0x00000020, 0x0000007C⟩ ]

/-- The rows of format W (R89). -/
def wRows : List Row :=
  [ ⟨.wAccept, .w, 0x00000180, 0x0000019C⟩,
    ⟨.wIdle, .w, 0x00000000, 0x0000009C⟩,
    ⟨.wIdleNotready, .w, 0x00000080, 0x0000019C⟩ ]

/-- The rows of format AR (R89). -/
def arRows : List Row :=
  [ ⟨.arAcceptF, .ar, 0x00000600, 0x0000061F⟩,
    ⟨.arAcceptA, .ar, 0x00000601, 0x0000061F⟩,
    ⟨.arAcceptT, .ar, 0x00000602, 0x0000061F⟩,
    ⟨.arIdle, .ar, 0x00000000, 0x0000021C⟩,
    ⟨.arIdleNotready, .ar, 0x00000200, 0x0000061C⟩ ]

/-- The rows of format PAIR (R89). -/
def pairRows : List Row :=
  [ ⟨.wpairBeat, .pair, 0x00001800, 0x0000781C⟩,
    ⟨.wpairLast, .pair, 0x00007800, 0x0000781C⟩,
    ⟨.wfaultEarly, .pair, 0x00003800, 0x0000781C⟩,
    ⟨.wfaultMissing, .pair, 0x00005800, 0x0000781C⟩,
    ⟨.wpairIdleNoaw, .pair, 0x00000000, 0x0000081C⟩,
    ⟨.wpairIdleNow, .pair, 0x00000800, 0x0000181C⟩ ]

/-- The rows of format DRAIN (R89). -/
def drainRows : List Row :=
  [ ⟨.drainBeat, .drain, 0x00018002, 0x0003801F⟩,
    ⟨.drainLast, .drain, 0x00038002, 0x0003801F⟩,
    ⟨.drainWait, .drain, 0x00008002, 0x0001801F⟩,
    ⟨.drainEmpty, .drain, 0x00000002, 0x0000801F⟩,
    ⟨.drainSkip, .drain, 0x00000000, 0x0000001E⟩ ]

/-- The rows of format ARRDY (R89). -/
def arrdyRows : List Row :=
  [ ⟨.arrdyTDrained, .arrdy, 0x00080002, 0x0008001F⟩,
    ⟨.arrdyTOpen, .arrdy, 0x00040002, 0x000C001F⟩,
    ⟨.arrdyTFull, .arrdy, 0x00000002, 0x000C001F⟩,
    ⟨.arrdySkip, .arrdy, 0x00000000, 0x0000001E⟩ ]

/-- The rows of format R (R89). -/
def rRows : List Row :=
  [ ⟨.rXferShift, .r, 0x00700000, 0x0070001C⟩,
    ⟨.rFreeShift, .r, 0x00400000, 0x0050001C⟩,
    ⟨.rXferFill, .r, 0x00300000, 0x0070001C⟩,
    ⟨.rFreeFill, .r, 0x00000000, 0x0050001C⟩,
    ⟨.rHold, .r, 0x00100000, 0x0030001C⟩ ]

/-- The rows of format B (R89). -/
def bRows : List Row :=
  [ ⟨.bXfer, .b, 0x01800000, 0x0180001C⟩,
    ⟨.bHold, .b, 0x00800000, 0x0180001C⟩,
    ⟨.bIdle, .b, 0x00000000, 0x0080001C⟩ ]

/-- The rows of format COMPLETE (R89). -/
def completeRows : List Row :=
  [ ⟨.cplFill, .complete, 0x02000004, 0x0200001C⟩,
    ⟨.cplUnexpected, .complete, 0x00000004, 0x0200001C⟩,
    ⟨.cplFaulted, .complete, 0x00000014, 0x0000001C⟩ ]

/-- The rows of format RESET (R89). -/
def resetRows : List Row :=
  [ ⟨.resetF, .reset, 0x00000008, 0x0000000F⟩,
    ⟨.resetA, .reset, 0x00000009, 0x0000000F⟩,
    ⟨.resetT, .reset, 0x0000000A, 0x0000000F⟩,
    ⟨.resetReserved, .reset, 0x0000000B, 0x0000000F⟩ ]

/-- The rows of format QUERY (R89). -/
def queryRows : List Row :=
  [ ⟨.queryInflight, .query, 0x0000000C, 0x0000000C⟩ ]

/-- spec/opcode_table.json, in its order. -/
def rows : List Row :=
  gateRows ++ awRows ++ wRows ++ arRows ++ pairRows ++ drainRows ++ arrdyRows ++ rRows ++ bRows ++ completeRows ++
    resetRows ++ queryRows

/-- A row is selected by an OSV in its format (R84). -/
def Row.selects (r : Row) (f : Format) (osv : Osv) : Bool :=
  decide (r.format = f) && decide (osv &&& r.mask = r.pattern)

/-- The row of the table that an OSV selects in a format (R84). -/
def selectRow (f : Format) (osv : Osv) : Option Row := rows.find? fun r => r.selects f osv

/-- The row of the table that stands for an operation. -/
def rowOf (op : Opcode) : Option Row := rows.find? fun r => decide (r.op = op)

/-- The operand of an encoded operation: nothing, an 80-bit address payload (R70, R73), a packed W payload (R71), one
cycle's ICW and payloads (R86), a completion (R87), or configuration values (R5). -/
inductive Operand where
  | none
  | addr (p : BitVec 80)
  | data (p : Nat)
  | cycle (icw : BitVec 6) (aw : BitVec 80) (w : Nat) (ar : BitVec 80)
  | completion (a : Addr) (bytes : List Byte)
  | config (p : Params)
deriving DecidableEq, Repr

/-- An encoded operation. -/
structure Code where
  format : Format
  osv : Osv
  operand : Operand
deriving DecidableEq, Repr

/-- Why a code is rejected. -/
inductive DecodeError where
  /-- OSV bits [31:26] are not 0 (R83, R85). -/
  | reservedBits
  /-- MODE is `11` in a step that is no RESET (R80: such a block never reaches a tick). -/
  | reservedMode
  /-- No row of the format is selected (R84). -/
  | noRow
  /-- The operand is not of the row's kind. -/
  | wrongOperand
  /-- A W payload has a bit above bit `9*DATA_BYTES` (R71). -/
  | payloadTooWide
  /-- The ICW's WLAST bit and the W payload's disagree (R71, R86). -/
  | wlastDisagrees
  /-- A completion does not have `DATA_BYTES` bytes (R87). -/
  | completionSize
deriving DecidableEq, Repr

/-- The address payload read by R70 and R73: ADDR [63:0], ID [71:64], LEN [79:72]. -/
def unpackAddr (p : BitVec 80) : AddrReq :=
  { addr := p.extractLsb' 0 64, id := p.extractLsb' 64 8, len := p.extractLsb' 72 8 }

/-- The address payload written by R70 and R73. -/
def packAddr (r : AddrReq) : BitVec 80 := r.len ++ r.id ++ r.addr

/-- The W payload read by R71: word `k` at bits [32k+31:32k], WSTRB at [9D-1:8D], WLAST at bit 9D, for `D = db`. -/
def unpackW (db n : Nat) : WBeat :=
  { data := (List.range (db / 4)).map fun k => BitVec.ofNat 32 (n >>> (32 * k)),
    strb := (List.range db).map fun i => n.testBit (8 * db + i),
    last := n.testBit (9 * db) }

/-- Data words as one number, word 0 lowest (R71). -/
def packWords : List DataWord → Nat
  | [] => 0
  | d :: ds => d.toNat + 2 ^ 32 * packWords ds

/-- Bits as one number, bit 0 lowest (R71). -/
def packBits : List Bool → Nat
  | [] => 0
  | b :: bs => b.toNat + 2 * packBits bs

/-- The W payload written by R71. -/
def packW (db : Nat) (w : WBeat) : Nat :=
  packWords w.data + 2 ^ (8 * db) * packBits w.strb + 2 ^ (9 * db) * w.last.toNat

/-- The input control word (R86): AWVALID, WVALID, WLAST, ARVALID, RREADY, BREADY from bit 0 up. WLAST is 0 where the
W group is absent. -/
def packIcw (inp : Inputs) : BitVec 6 :=
  BitVec.ofNat 6 (packBits [inp.awvalid, inp.wvalid, inp.wvalid && inp.w.last, inp.arvalid, inp.rready, inp.bready])

/-- The input signals of a cycle, read from its ICW and payloads (R86). -/
def unpackInputs (db : Nat) (icw : BitVec 6) (aw : BitVec 80) (w : Nat) (ar : BitVec 80) : Inputs :=
  { awvalid := icw.getLsbD 0, aw := unpackAddr aw, wvalid := icw.getLsbD 1, w := unpackW db w,
    arvalid := icw.getLsbD 3, ar := unpackAddr ar, rready := icw.getLsbD 4, bready := icw.getLsbD 5 }

/-- A W payload fits its `9*DATA_BYTES + 1` bits (R71). -/
def fitsW (db n : Nat) : Bool := decide (n < 2 ^ (9 * db + 1))

/-- The operand of a TICK (R86). A W payload is checked only where its group is present; an absent group's payload
"does not matter". -/
def decodeCycle (db : Nat) (icw : BitVec 6) (aw : BitVec 80) (w : Nat) (ar : BitVec 80) : Except DecodeError Instr :=
  if icw.getLsbD 1 && !fitsW db w then .error .payloadTooWide
  else if icw.getLsbD 1 && icw.getLsbD 2 != w.testBit (9 * db) then .error .wlastDisagrees
  else .ok (.tick (unpackInputs db icw aw w ar))

/-- The operand of a row that takes an address payload (R70, R73). -/
def decodeAddr (mk : AddrReq → Instr) : Operand → Except DecodeError Instr
  | .addr p => .ok (mk (unpackAddr p))
  | .none => .error .wrongOperand
  | .data _ => .error .wrongOperand
  | .cycle _ _ _ _ => .error .wrongOperand
  | .completion _ _ => .error .wrongOperand
  | .config _ => .error .wrongOperand

/-- The operand of a row that takes a W payload (R71). -/
def decodeData (db : Nat) : Operand → Except DecodeError Instr
  | .data p => if fitsW db p then .ok (.wAccept (unpackW db p)) else .error .payloadTooWide
  | .none => .error .wrongOperand
  | .addr _ => .error .wrongOperand
  | .cycle _ _ _ _ => .error .wrongOperand
  | .completion _ _ => .error .wrongOperand
  | .config _ => .error .wrongOperand

/-- The operand of TICK (R86). -/
def decodeTick (db : Nat) : Operand → Except DecodeError Instr
  | .cycle icw aw w ar => decodeCycle db icw aw w ar
  | .none => .error .wrongOperand
  | .addr _ => .error .wrongOperand
  | .data _ => .error .wrongOperand
  | .completion _ _ => .error .wrongOperand
  | .config _ => .error .wrongOperand

/-- The operand of a row that takes a completion (R87): exactly `DATA_BYTES` bytes. -/
def decodeCompletion (db : Nat) (mk : Addr → List Byte → Instr) : Operand → Except DecodeError Instr
  | .completion a bytes => if bytes.length = db then .ok (mk a bytes) else .error .completionSize
  | .none => .error .wrongOperand
  | .addr _ => .error .wrongOperand
  | .data _ => .error .wrongOperand
  | .cycle _ _ _ _ => .error .wrongOperand
  | .config _ => .error .wrongOperand

/-- The operand of a RESET row (R220). -/
def decodeConfig (mk : Params → Instr) : Operand → Except DecodeError Instr
  | .config p => .ok (mk p)
  | .none => .error .wrongOperand
  | .addr _ => .error .wrongOperand
  | .data _ => .error .wrongOperand
  | .cycle _ _ _ _ => .error .wrongOperand
  | .completion _ _ => .error .wrongOperand

/-- The operation of a selected row: the row's name with its operand read. Rows without operands ignore it. -/
def attachOperand (db : Nat) (o : Operand) : Opcode → Except DecodeError Instr
  | .tick => decodeTick db o
  | .tickFaulted => .ok .tickFaulted
  | .awAccept => decodeAddr .awAccept o
  | .awIdle => .ok .awIdle
  | .awIdleNotready => .ok .awIdleNotready
  | .wAccept => decodeData db o
  | .wIdle => .ok .wIdle
  | .wIdleNotready => .ok .wIdleNotready
  | .arAcceptF => decodeAddr .arAcceptF o
  | .arAcceptA => decodeAddr .arAcceptA o
  | .arAcceptT => decodeAddr .arAcceptT o
  | .arIdle => .ok .arIdle
  | .arIdleNotready => .ok .arIdleNotready
  | .wpairBeat => .ok .wpairBeat
  | .wpairLast => .ok .wpairLast
  | .wfaultEarly => .ok .wfaultEarly
  | .wfaultMissing => .ok .wfaultMissing
  | .wpairIdleNoaw => .ok .wpairIdleNoaw
  | .wpairIdleNow => .ok .wpairIdleNow
  | .drainBeat => .ok .drainBeat
  | .drainLast => .ok .drainLast
  | .drainWait => .ok .drainWait
  | .drainEmpty => .ok .drainEmpty
  | .drainSkip => .ok .drainSkip
  | .arrdyTDrained => .ok .arrdyTDrained
  | .arrdyTOpen => .ok .arrdyTOpen
  | .arrdyTFull => .ok .arrdyTFull
  | .arrdySkip => .ok .arrdySkip
  | .rXferShift => .ok .rXferShift
  | .rFreeShift => .ok .rFreeShift
  | .rXferFill => .ok .rXferFill
  | .rFreeFill => .ok .rFreeFill
  | .rHold => .ok .rHold
  | .bXfer => .ok .bXfer
  | .bHold => .ok .bHold
  | .bIdle => .ok .bIdle
  | .cplFill => decodeCompletion db .cplFill o
  | .cplUnexpected => decodeCompletion db (fun a _ => .cplUnexpected a) o
  | .cplFaulted => .ok .cplFaulted
  | .resetF => decodeConfig .resetF o
  | .resetA => decodeConfig .resetA o
  | .resetT => decodeConfig .resetT o
  | .resetReserved => .ok .resetReserved
  | .queryInflight => .ok .queryInflight

/-- The decoder, for a bus of `db` bytes per beat (R83, R84): OSV bits [31:26] must be 0, MODE `11` stands only in a
RESET, and the format's selected row gives the operation. -/
def decode (db : Nat) (c : Code) : Except DecodeError Instr :=
  if c.osv >>> 26 ≠ 0 then .error .reservedBits
  else if c.format ≠ .reset ∧ c.osv &&& 3 = 3 then .error .reservedMode
  else
    match selectRow c.format c.osv with
    | none => .error .noRow
    | some r => attachOperand db c.operand r.op

/-- The operand that an operation is encoded with. A CPL_UNEXPECTED's bytes, which it does not keep (R200), are
written as zeros. -/
def Instr.operand (db : Nat) : Instr → Operand
  | .tick inp => .cycle (packIcw inp) (packAddr inp.aw) (packW db inp.w) (packAddr inp.ar)
  | .awAccept p => .addr (packAddr p)
  | .wAccept w => .data (packW db w)
  | .arAcceptF p => .addr (packAddr p)
  | .arAcceptA p => .addr (packAddr p)
  | .arAcceptT p => .addr (packAddr p)
  | .cplFill a bytes => .completion a bytes
  | .cplUnexpected a => .completion a (List.replicate db 0)
  | .resetF p => .config p
  | .resetA p => .config p
  | .resetT p => .config p
  | .tickFaulted => .none
  | .awIdle => .none
  | .awIdleNotready => .none
  | .wIdle => .none
  | .wIdleNotready => .none
  | .arIdle => .none
  | .arIdleNotready => .none
  | .wpairBeat => .none
  | .wpairLast => .none
  | .wfaultEarly => .none
  | .wfaultMissing => .none
  | .wpairIdleNoaw => .none
  | .wpairIdleNow => .none
  | .drainBeat => .none
  | .drainLast => .none
  | .drainWait => .none
  | .drainEmpty => .none
  | .drainSkip => .none
  | .arrdyTDrained => .none
  | .arrdyTOpen => .none
  | .arrdyTFull => .none
  | .arrdySkip => .none
  | .rXferShift => .none
  | .rFreeShift => .none
  | .rXferFill => .none
  | .rFreeFill => .none
  | .rHold => .none
  | .bXfer => .none
  | .bHold => .none
  | .bIdle => .none
  | .cplFaulted => .none
  | .resetReserved => .none
  | .queryInflight => .none

/-- The encoder: the row's own match word (every other OSV bit 0) in the row's format, with the operand packed. -/
def encode (db : Nat) (i : Instr) : Code :=
  match rowOf i.opcode with
  | some r => { format := r.format, osv := r.pattern, operand := i.operand db }
  | none => { format := .gate, osv := 0, operand := .none }

/-- The format in which a bare table word is read (log 7): KIND decides the step kinds; a TICK word is read in the slot
of its highest status bit, since a slot samples its bits when the tick reaches it (R83); FAULT, or no status bit, is the
GATE. -/
def formatOfWord (osv : Osv) : Format :=
  if osv &&& 0x0C = 0x04 then .complete
  else if osv &&& 0x0C = 0x08 then .reset
  else if osv &&& 0x0C = 0x0C then .query
  else if osv &&& 0x10 ≠ 0 then .gate
  else if osv &&& 0x01800000 ≠ 0 then .b
  else if osv &&& 0x00700000 ≠ 0 then .r
  else if osv &&& 0x000C0000 ≠ 0 then .arrdy
  else if osv &&& 0x00038000 ≠ 0 then .drain
  else if osv &&& 0x00007800 ≠ 0 then .pair
  else if osv &&& 0x00000600 ≠ 0 then .ar
  else if osv &&& 0x00000180 ≠ 0 then .w
  else if osv &&& 0x00000060 ≠ 0 then .aw
  else .gate

/-- The operand of zeros that a bare table word stands with. A configuration is a record, not words (R220), so a RESET
word stands with `p`. -/
def zeroOperand (db : Nat) (p : Params) : Format → Operand
  | .gate => .cycle 0 0 0 0
  | .aw => .addr 0
  | .w => .data 0
  | .ar => .addr 0
  | .complete => .completion 0 (List.replicate db 0)
  | .reset => .config p
  | .pair => .none
  | .drain => .none
  | .arrdy => .none
  | .r => .none
  | .b => .none
  | .query => .none

/-- A bare table word as a code: its format by `formatOfWord`, its operand zeros. -/
def codeOfWord (db : Nat) (p : Params) (w : Nat) : Code :=
  { format := formatOfWord (BitVec.ofNat 32 w), osv := BitVec.ofNat 32 w,
    operand := zeroOperand db p (formatOfWord (BitVec.ofNat 32 w)) }

/-- The operation that the decoder reads from a table word of `nbits` bits with every later bit 0. The OSV is 32 bits
(R83), so a word with a bit above is none. -/
def decodeTableWord (nbits w : Nat) : Option Instr :=
  if nbits ≤ 32 ∧ w < 2 ^ 32 then
    match decode Params.example.dataBytes (codeOfWord Params.example.dataBytes Params.example w) with
    | .ok i => some i
    | .error _ => none
  else none

end Sys2Proof
end

