-- ==== Sys2Proof/Machine/State.lean ====
section
/-!
DEFINITION. The state of the block (10_state.md), the reasons a step can stop, and the state after reset
(70_reset_and_hazards.md rule R220).
-/

namespace Sys2Proof.Machine

/-- An AddressWriteRequest (R24, R75): `rem` counts the beats still to come after the current one. -/
structure AwEntry where
  id : Id
  addr : Addr
  rem : Nat
deriving DecidableEq, Repr, Inhabited

/-- A WriteResponse (R26, R78). -/
structure BEntry where
  id : Id
deriving DecidableEq, Repr, Inhabited

/-- A ReadBeat (R77): one cycle of read data, or a sentinel or placeholder when `valid` is false. -/
structure ReadBeat where
  valid : Bool
  id : Id
  last : Bool
  data : List DataWord
deriving DecidableEq, Repr, Inhabited

/-- The values of the sticky fault register (R33, R200). -/
inductive FaultKind where
  | none
  | wlastEarly
  | wlastMissing
  | unexpectedCompletion
deriving DecidableEq, Repr, Inhabited

/-- The fault codes (R200). -/
def FaultKind.code : FaultKind → Nat
  | .none => 0
  | .wlastEarly => 1
  | .wlastMissing => 2
  | .unexpectedCompletion => 3

/-- A request sent to the backend (R36, R87). -/
inductive BackendEvent where
  | read (addr : Addr) (size : Nat) (isTiming : Bool)
  | write (addr : Addr) (byte : Byte) (isTiming : Bool)
deriving DecidableEq, Repr, Inhabited

/-- The reasons the model stops with a fault. The block's own faults are none of these: they are the sticky register
`State.fault`, a next state (R33, R201). -/
inductive Fault where
  /-- Raised by `step` where a step's OSV selects no row of its format. R84 gives no effect there. Safe: the rows of the
  step-level formats cover every OSV that `step` assembles, so no state raises it. -/
  | noRow
deriving DecidableEq, Repr

/-- The reasons the model refuses a step. -/
inductive Refusal where
  /-- Raised by `exec` for a row without a meaning. No row is left so. Safe. -/
  | notModelled (mnemonic : String)
  /-- Raised by a meaning executed in a state that does not select its row, where an operand it reads is not there
  (R9: the head of an empty queue is not defined) or its FAULT bit is wrong. Safe: a step never runs such a row. -/
  | notSelected (mnemonic : String)
  /-- Raised by RESET_F, RESET_A and RESET_T on a configuration outside R5's legal values (R221: "refuse"). Safe. -/
  | illegalConfig
  /-- Raised by RESET_RESERVED (R221: "refuse. No state is built"). Safe. -/
  | reservedMode
  /-- Raised by `step` on an environment step that the formats cannot write (R71, R86, R87). Safe. -/
  | undecodable (e : DecodeError)
deriving DecidableEq, Repr

/-- The state of the block, and the model's own fields at the end. -/
structure State where
  /-- The configuration (R23; R220 `st.cfg`). -/
  cfg : Config
  /-- `out.AWREADY` (R21). -/
  awready : Bool
  /-- `out.WREADY` (R21, R22). -/
  wready : Bool
  /-- `out.BVALID` (R21, R35). -/
  bvalid : Bool
  /-- `out.BID` (R21, R35). -/
  bid : Id
  /-- `out.ARREADY` (R21). -/
  arready : Bool
  /-- `st.awq` (R24). -/
  awq : List AwEntry
  /-- `st.wq` (R25). -/
  wq : List WBeat
  /-- `st.bq` (R26). -/
  bq : List BEntry
  /-- `st.pq` (R27). -/
  pq : List ReadBeat
  /-- `st.lq` (R28). -/
  lq : List ReadBeat
  /-- `st.rout` (R28): drives RVALID, RID, RLAST and RDATA (R127). -/
  rout : ReadBeat
  /-- `st.pending` (R29), as (address, nonempty list) pairs with the addresses strictly rising. -/
  pending : List (Nat × List ReadBeat)
  /-- `st.oq` (R30). -/
  oq : List Addr
  /-- `st.inflight` (R31). -/
  inflight : Nat
  /-- `st.mem` (R32), as (address, nonzero byte) pairs with the addresses strictly rising. -/
  mem : List Host.Cell
  /-- `st.fault` (R33). -/
  fault : FaultKind
  /-- `st.events` (R36), oldest first. -/
  events : List BackendEvent
  /-- The slot-local `drained` of R144 to R147, read as OSV bit 19 by the ARRDY slot (log 9). -/
  drained : Bool
  /-- The ghost cycle index `n` (R37, log 10). Read by no rule. -/
  cycle : Nat
  /-- The model's own: what the last QUERY returned to the host (R152, log 11). -/
  hostAnswer : Option Nat
  /-- The model's own: the environment's steps to come (R210, log 1). -/
  stim : List Stimulus
  /-- The model's own: how many free values have been drawn (log 2, log 3). -/
  draws : Nat
deriving DecidableEq, Repr

/-- The machine right after `RESET_F` with the configuration C0 (R220; the configuration is DESIGN CHOICE, log 4), with no
environment step placed. -/
def State.reset : State :=
  { cfg := { toParams := Params.example, mode := .functional }
    awready := true
    wready := true
    bvalid := false
    bid := 0
    arready := true
    awq := []
    wq := []
    bq := []
    pq := []
    lq := [⟨false, 0, false, [0xAAAAAAAA]⟩, ⟨false, 0, false, [0xAAAAAAAA]⟩]
    rout := ⟨false, 0, false, [0xAAAAAAAA]⟩
    pending := []
    oq := []
    inflight := 0
    mem := []
    fault := .none
    events := []
    drained := false
    cycle := 0
    hostAnswer := none
    stim := []
    draws := 0 }

end Sys2Proof.Machine
end

