-- ==== Sys2Proof/Machine/Operands.lean ====
section
/-!
DEFINITION. Operand forms: byte lanes and words (R56), alignment (R59), the burst split (R100), and the sentinel and
placeholder beats (R79, R140).
-/

namespace Sys2Proof.Machine

/-- `lane(d, i) = d[i / 4][8*(i mod 4) + 7 : 8*(i mod 4)]` (R56). -/
def lane (d : List DataWord) (i : Nat) : Byte := (d.getD (i / 4) 0).extractLsb' (8 * (i % 4)) 8

/-- Word `w` of `pack(bs)`: `bs[4w] | bs[4w+1] << 8 | bs[4w+2] << 16 | bs[4w+3] << 24` (R56). -/
def packWord (bs : List Byte) (w : Nat) : DataWord :=
  (bs.getD (4 * w) 0).setWidth 32 ||| (bs.getD (4 * w + 1) 0).setWidth 32 <<< 8 |||
    (bs.getD (4 * w + 2) 0).setWidth 32 <<< 16 ||| (bs.getD (4 * w + 3) 0).setWidth 32 <<< 24

/-- `pack(bs)`: the words of a beat's bytes, byte `j` in lane `j` (R56). -/
def pack (bs : List Byte) : List DataWord := (List.range (bs.length / 4)).map (packWord bs)

/-- `align(a) = a - (a mod DATA_BYTES)` (R59), for `db` bytes per beat. -/
def align (db : Nat) (a : Addr) : Addr := BitVec.ofNat 64 (a.toNat - a.toNat % db)

/-- The address `k` bytes on, modulo `2^ADDR_W` (R53). -/
def addrAdd (a : Addr) (k : Nat) : Addr := a + BitVec.ofNat 64 k

/-- `splitRead(base, len)`: the `len + 1` beat addresses of a burst, the last one marked (R100). -/
def splitRead (db : Nat) (base : Addr) (len : Len) : List (Addr × Bool) :=
  (List.range (len.toNat + 1)).map fun i => (addrAdd base (i * db), decide (i = len.toNat))

/-- The beat addresses that an AR payload asks for: `splitRead(align(ARADDR), ARLEN)` (R141, R163, R164). -/
def burstOf (db : Nat) (p : AddrReq) : List (Addr × Bool) := splitRead db (align db p.addr) p.len

/-- A sentinel beat with one pattern in each of `nwords` words (R79). -/
def sentinel (nwords : Nat) (pattern : DataWord) : ReadBeat :=
  { valid := false, id := 0, last := false, data := List.replicate nwords pattern }

/-- The BOOT sentinel (R79, R121). -/
def bootBeat (nwords : Nat) : ReadBeat := sentinel nwords 0xAAAAAAAA

/-- The FILL sentinel (R79, R123). -/
def fillBeat (nwords : Nat) : ReadBeat := sentinel nwords 0xAAAAAAAA

/-- The GAP sentinel (R79, R122). -/
def gapBeat (nwords : Nat) : ReadBeat := sentinel nwords 0x55555555

/-- A placeholder of the pending table, its data 0 until a completion fills it (R140). -/
def placeholder (nwords : Nat) (id : Id) (last : Bool) : ReadBeat :=
  { valid := false, id := id, last := last, data := List.replicate nwords 0 }

end Sys2Proof.Machine
end

