-- ==== Sys2Proof/Machine/Ops.lean ====
section
/-!
DEFINITION. The named operations that the slots share: address-keyed tables in canonical form (R9, R50), the Block Store
(R51), the backend port (R36, R55, R57), the pending table (R140), the latency pipeline (R120, R122), and raising a fault
(R10, R201).
-/

namespace Sys2Proof.Machine

/-- What a table holds at a key; an unlisted key holds `d`. -/
def tableGet {β : Type} (d : β) : List (Nat × β) → Nat → β
  | [], _ => d
  | (k, v) :: m, a => if a = k then v else tableGet d m a

/-- A table with one key changed, keys kept rising and no key listed that holds `d`. -/
def tableSet {β : Type} [DecidableEq β] (d : β) : List (Nat × β) → Nat → β → List (Nat × β)
  | [], a, v => if v = d then [] else [(a, v)]
  | (k, w) :: m, a, v =>
    if a < k then if v = d then (k, w) :: m else (a, v) :: (k, w) :: m
    else if a = k then if v = d then m else (a, v) :: m
    else (k, w) :: tableSet d m a v

/-- The canonical form from key `lo` on: keys strictly rising, below `hi`, and none listed with the value `d`. -/
def tableWf {β : Type} [DecidableEq β] (hi : Nat) (d : β) : Nat → List (Nat × β) → Bool
  | _, [] => true
  | lo, (k, v) :: m => decide (lo ≤ k) && decide (k < hi) && !decide (v = d) && tableWf hi d (k + 1) m

/-- The Block Store's form: addresses rising, within 64 bits, no listed byte 0 (an unlisted byte reads 0, R50). -/
def Memory.wf (m : List Host.Cell) : Bool := tableWf (2 ^ 64) 0 0 m

/-- The pending table's form: addresses rising, within 64 bits, no listed list empty (R9). -/
def pendingWf (m : List (Nat × List ReadBeat)) : Bool := tableWf (2 ^ 64) [] 0 m

/-- `readByte(a)` (R51): an unlisted byte reads 0, the value the spec gives an unwritten byte (R50). -/
def readByte (m : List Host.Cell) (a : Addr) : Byte := tableGet 0 m a.toNat

/-- `writeByte(a, v)` (R51). -/
def writeByte (m : List Host.Cell) (a : Addr) (v : Byte) : List Host.Cell := tableSet 0 m a.toNat v

/-- `MemRead(a, n)` (R10, R51). -/
def memRead (m : List Host.Cell) (a : Addr) (n : Nat) : List Byte :=
  (List.range n).map fun k => readByte m (addrAdd a k)

/-- `blockBeat(a) = pack(MemRead(a, DATA_BYTES))` (R58). -/
def blockBeat (s : State) (a : Addr) : List DataWord := pack (memRead s.mem a s.cfg.dataBytes)

/-- `emit E` (R10, R36). -/
def emit (e : BackendEvent) (s : State) : State := { s with events := s.events ++ [e] }

/-- `writeLane(a, v)` (R57): the byte lands in the Block Store, and in ATOMIC and TIMING mode goes to the backend. -/
def writeLane (a : Addr) (v : Byte) (s : State) : State :=
  match s.cfg.mode with
  | .functional => { s with mem := writeByte s.mem a v }
  | .atomic => { s with mem := writeByte s.mem a v, events := s.events ++ [.write a v false] }
  | .timing => { s with mem := writeByte s.mem a v, events := s.events ++ [.write a v true] }

/-- The lanes `is` of a data beat written at beat address `a`, in the order given, each where its strobe bit is set. -/
def applyLanes (a : Addr) (w : WBeat) : List Nat → State → State
  | [], s => s
  | i :: is, s =>
    applyLanes a w is (if w.strb.getD i false then writeLane (addrAdd a i) (lane w.data i) s else s)

/-- `applyBeat(aw, w)` (R106): the strobed lanes in ascending lane order. -/
def applyBeat (a : Addr) (w : WBeat) (s : State) : State := applyLanes a w (List.range s.cfg.dataBytes) s

/-- The bytes that `BackendReadSync` returns: `n` free values from draw `k` on (R55, log 3). -/
def backendBytes (k n : Nat) : List Byte := (List.range n).map fun j => Config.backendByte (k + j)

/-- The placeholders pending at an address (R29). -/
def pendingAt (s : State) (a : Addr) : List ReadBeat := tableGet [] s.pending a.toNat

/-- The pending table with the list at one address replaced. -/
def setPending (s : State) (a : Addr) (l : List ReadBeat) : List (Nat × List ReadBeat) :=
  tableSet [] s.pending a.toNat l

/-- `st.pending[a]` holds an entry with `valid = 0` (R83 bit 25). -/
def hasInvalid (l : List ReadBeat) : Bool := l.any fun b => !b.valid

/-- The oldest invalid placeholder of a list filled with `d` (R142). -/
def fillOldest (d : List DataWord) : List ReadBeat → List ReadBeat
  | [] => []
  | b :: l => if b.valid then b :: fillOldest d l else { b with valid := true, data := d } :: l

/-- `pushGap()` (R122): `R_DELAY` GAP sentinels behind the last beat. -/
def pushGap (s : State) : State :=
  { s with pq := s.pq ++ List.replicate s.cfg.rDelay (gapBeat s.cfg.nwords) }

/-- `shift(x)` (R120): the head of `lq ++ [x]` goes to the output register. -/
def shift (x : ReadBeat) (s : State) : State :=
  match s.lq with
  | [] => { s with rout := x }
  | q :: qs => { s with rout := q, lq := qs ++ [x] }

/-- `raise Fault(k)` (R10, R201): the fault register is set and nothing else changes. -/
def raiseFault (k : FaultKind) (s : State) : State := { s with fault := k }

end Sys2Proof.Machine
end

