-- ==== Sys2Proof/Machine/Flags.lean ====
section
/-!
DEFINITION. The status bits and the operation-select vector assembled from them (R38, R83): each bit at its own sampling
point. Bits that a step does not sample are 0 (log 16).
-/

namespace Sys2Proof.Machine

/-- Bit `i` of an OSV. -/
def osvBit (i : Nat) (b : Bool) : Osv := if b then 1#32 <<< i else 0

/-- FAULT: `st.fault != NONE` (R83 bit 4). -/
def faulted (s : State) : Bool := !decide (s.fault = .none)

/-- AWQ_NE (R83 bit 11). -/
def awqNe (s : State) : Bool := !s.awq.isEmpty

/-- WQ_NE (R83 bit 12). -/
def wqNe (s : State) : Bool := !s.wq.isEmpty

/-- WH_LAST: the head of `wq` is marked last, 0 for an empty queue (R83 bit 13). -/
def whLast (s : State) : Bool :=
  match s.wq with
  | [] => false
  | w :: _ => w.last

/-- AWH_REM0: the head of `awq` has no beat after the current one, 0 for an empty queue (R83 bit 14). -/
def awhRem0 (s : State) : Bool :=
  match s.awq with
  | [] => false
  | e :: _ => decide (e.rem = 0)

/-- OQ_NE (R83 bit 15). -/
def oqNe (s : State) : Bool := !s.oq.isEmpty

/-- The oldest placeholder at the head address of `oq`, if there is one. -/
def headBeat (s : State) : Option ReadBeat :=
  match s.oq with
  | [] => none
  | a :: _ => (pendingAt s a).head?

/-- OH_VALID: the head placeholder is valid, 0 where there is none (R83 bit 16, log 13). -/
def ohValid (s : State) : Bool :=
  match headBeat s with
  | none => false
  | some b => b.valid

/-- OH_LAST: the head placeholder is its burst's last beat, 0 where there is none (R83 bit 17, log 13). -/
def ohLast (s : State) : Bool :=
  match headBeat s with
  | none => false
  | some b => b.last

/-- WIN_OK: `st.inflight < W_EFF` (R83 bit 18, R151). -/
def winOk (s : State) : Bool := decide (s.inflight < s.cfg.wEff)

/-- PQ_NE (R83 bit 22). -/
def pqNe (s : State) : Bool := !s.pq.isEmpty

/-- CPL_MATCH: the completion's address holds an invalid placeholder (R83 bit 25). -/
def cplMatch (s : State) (a : Addr) : Bool := hasInvalid (pendingAt s a)

/-- The OSV bits common to every step: MODE [1:0], KIND [3:2] (R80, R81) and FAULT. -/
def osvStep (mode kind : BitVec 2) (s : State) : Osv :=
  mode.setWidth 32 ||| kind.setWidth 32 <<< 2 ||| osvBit 4 (faulted s)

/-- The OSV bits of a TICK sampled at tick start: the VALID and READY signals of the five channels (R83). -/
def osvTickStart (awvalid wvalid arvalid rready bready : Bool) (s : State) : Osv :=
  osvStep s.cfg.mode.bits 0 s ||| osvBit 5 awvalid ||| osvBit 6 s.awready ||| osvBit 7 wvalid ||| osvBit 8 s.wready |||
    osvBit 9 arvalid ||| osvBit 10 s.arready ||| osvBit 21 rready ||| osvBit 23 s.bvalid ||| osvBit 24 bready

/-- The OSV bits sampled at the start of a slot (R83). The DRAIN and ARRDY bits are sampled in TIMING mode, the only mode
in which their slots have rows that read them (R84, log 16). -/
def osvSlot (f : Format) (s : State) : Osv :=
  match f with
  | .pair => osvBit 11 (awqNe s) ||| osvBit 12 (wqNe s) ||| osvBit 13 (whLast s) ||| osvBit 14 (awhRem0 s)
  | .drain =>
    if s.cfg.mode = .timing then osvBit 15 (oqNe s) ||| osvBit 16 (ohValid s) ||| osvBit 17 (ohLast s) else 0
  | .arrdy => if s.cfg.mode = .timing then osvBit 18 (winOk s) ||| osvBit 19 s.drained else 0
  | .r => osvBit 20 s.rout.valid ||| osvBit 22 (pqNe s)
  | .gate => 0
  | .aw => 0
  | .w => 0
  | .ar => 0
  | .b => 0
  | .complete => 0
  | .reset => 0
  | .query => 0

end Sys2Proof.Machine
end

