-- ==== Sys2Proof/Machine/Completion.lean ====
section
/-!
DEFINITION. Backend completions, a step of their own between ticks (42_inflight_table.md rules R142, R143;
60_exceptions.md rule R202).
-/

namespace Sys2Proof.Machine

/-- The fill of R142: the oldest invalid placeholder at `a` takes the bytes and becomes valid. -/
def fillPending (a : Addr) (bytes : List Byte) (s : State) : State :=
  { s with pending := setPending s a (fillOldest (pack bytes) (pendingAt s a)) }

/-- CPL_FILL (R142). Not selected, and refused, while FAULT = 1 or CPL_MATCH = 0 (R84). -/
def execCplFill (a : Addr) (bytes : List Byte) (s : State) : Host.Outcome State Fault Refusal :=
  if faulted s || !cplMatch s a then .refused (.notSelected "CPL_FILL") else .next (fillPending a bytes s)

/-- CPL_UNEXPECTED (R143): the completion is not stored (R200). Not selected, and refused, while FAULT = 1 or
CPL_MATCH = 1 (R84). -/
def execCplUnexpected (a : Addr) (s : State) : Host.Outcome State Fault Refusal :=
  if faulted s || cplMatch s a then .refused (.notSelected "CPL_UNEXPECTED")
  else .next (raiseFault .unexpectedCompletion s)

/-- CPL_FAULTED (R202): nothing changes and the code stays. Not selected, and refused, while FAULT = 0 (R84). -/
def execCplFaulted (s : State) : Host.Outcome State Fault Refusal :=
  if faulted s then .next s else .refused (.notSelected "CPL_FAULTED")

end Sys2Proof.Machine
end

