-- ==== Sys2Proof/Machine/ArChannel.lean ====
section
/-!
DEFINITION. The AR slot: read bursts accepted in FUNCTIONAL (R163), ATOMIC (R164) and TIMING mode (R141), and the idle AR
slot (R165).
-/

namespace Sys2Proof.Machine

/-- A valid read beat. -/
def readBeat (id : Id) (last : Bool) (d : List DataWord) : ReadBeat := { valid := true, id := id, last := last, data := d }

/-- The beats of a FUNCTIONAL-mode burst: each read from the Block Store as it stands in the AR slot (R163, R62). -/
def blockBeats (id : Id) (s : State) (bs : List (Addr × Bool)) : List ReadBeat :=
  bs.map fun (a, last) => readBeat id last (blockBeat s a)

/-- The acceptance of R163: the whole burst and its gap are queued, and ARREADY drops for one cycle. -/
def acceptF (p : AddrReq) (s : State) : State :=
  pushGap { s with pq := s.pq ++ blockBeats p.id s (burstOf s.cfg.dataBytes p), arready := false }

/-- One beat of R164: the backend is read, and the beat takes the backend's bytes or the Block Store's as
`ATOMIC_RDATA_SRC` says. -/
def atomicBeat (id : Id) (b : Addr × Bool) (s : State) : State :=
  { s with
    events := s.events ++ [.read b.1 s.cfg.dataBytes false]
    draws := s.draws + s.cfg.dataBytes
    pq := s.pq ++ [readBeat id b.2
      (match s.cfg.rdataSrc with
        | .backend => pack (backendBytes s.draws s.cfg.dataBytes)
        | .blockStore => blockBeat s b.1)] }

/-- The beats of an ATOMIC-mode burst, in beat order (R164). -/
def atomicBeats (id : Id) : List (Addr × Bool) → State → State
  | [], s => s
  | b :: bs, s => atomicBeats id bs (atomicBeat id b s)

/-- The acceptance of R164. -/
def acceptA (p : AddrReq) (s : State) : State :=
  pushGap { atomicBeats p.id (burstOf s.cfg.dataBytes p) s with arready := false }

/-- One beat of R141: a placeholder at the beat's address, the address in the order queue, a read request to the backend,
one more in flight. -/
def registerBeat (id : Id) (b : Addr × Bool) (s : State) : State :=
  { s with
    pending := setPending s b.1 (pendingAt s b.1 ++ [placeholder s.cfg.nwords id b.2])
    oq := s.oq ++ [b.1]
    events := s.events ++ [.read b.1 s.cfg.dataBytes true]
    inflight := s.inflight + 1 }

/-- The beats of a TIMING-mode burst, in beat order (R141). -/
def registerBeats (id : Id) : List (Addr × Bool) → State → State
  | [], s => s
  | b :: bs, s => registerBeats id bs (registerBeat id b s)

/-- The registration of R141; ARREADY is left to the ARRDY slot. -/
def acceptT (p : AddrReq) (s : State) : State := registerBeats p.id (burstOf s.cfg.dataBytes p) s

/-- The idle AR slot of R165: ARREADY rises in FUNCTIONAL and ATOMIC mode. -/
def restAr (s : State) : State :=
  match s.cfg.mode with
  | .functional => { s with arready := true }
  | .atomic => { s with arready := true }
  | .timing => s

/-- AR_ACCEPT_F (R163). -/
def execArAcceptF (p : AddrReq) (s : State) : Host.Outcome State Fault Refusal := .next (acceptF p s)

/-- AR_ACCEPT_A (R164). -/
def execArAcceptA (p : AddrReq) (s : State) : Host.Outcome State Fault Refusal := .next (acceptA p s)

/-- AR_ACCEPT_T (R141). -/
def execArAcceptT (p : AddrReq) (s : State) : Host.Outcome State Fault Refusal := .next (acceptT p s)

/-- AR_IDLE (R165). -/
def execArIdle (s : State) : Host.Outcome State Fault Refusal := .next (restAr s)

/-- AR_IDLE_NOTREADY (R165). -/
def execArIdleNotready (s : State) : Host.Outcome State Fault Refusal := .next (restAr s)

/-- The AR slot's choice (R161). -/
def arSlot (inp : Inputs) (s : State) : State :=
  if inp.arvalid && s.arready then
    match s.cfg.mode with
    | .functional => acceptF inp.ar s
    | .atomic => acceptA inp.ar s
    | .timing => acceptT inp.ar s
  else restAr s

end Sys2Proof.Machine
end

