-- ==== Sys2Proof/Machine/ArReady.lean ====
section
/-!
DEFINITION. The ARRDY slot: TIMING mode drives ARREADY from this tick's drain and the in-flight window
(42_inflight_table.md rules R148 to R150; R166 in the other modes).
-/

namespace Sys2Proof.Machine

/-- `out.ARREADY <- v`. -/
def driveArready (v : Bool) (s : State) : State := { s with arready := v }

/-- ARRDY_T_DRAINED (R148). -/
def execArrdyTDrained (s : State) : Host.Outcome State Fault Refusal := .next (driveArready false s)

/-- ARRDY_T_OPEN (R149). -/
def execArrdyTOpen (s : State) : Host.Outcome State Fault Refusal := .next (driveArready true s)

/-- ARRDY_T_FULL (R150). -/
def execArrdyTFull (s : State) : Host.Outcome State Fault Refusal := .next (driveArready false s)

/-- ARRDY_SKIP (R166). -/
def execArrdySkip (s : State) : Host.Outcome State Fault Refusal := .next s

/-- The ARRDY slot's choice (R161, R148 to R150, R166). -/
def arrdySlot (s : State) : State :=
  match s.cfg.mode with
  | .functional => s
  | .atomic => s
  | .timing => if s.drained then driveArready false s else driveArready (winOk s) s

end Sys2Proof.Machine
end

