-- ==== Sys2Proof/Machine/AwChannel.lean ====
section
/-!
DEFINITION. The AW slot: write-address capture (40_burst_codec.md rules R102, R103).
-/

namespace Sys2Proof.Machine

/-- The capture of R102: the aligned request is queued and AWREADY drops for one cycle. -/
def captureAw (p : AddrReq) (s : State) : State :=
  { s with awq := s.awq ++ [{ id := p.id, addr := align s.cfg.dataBytes p.addr, rem := p.len.toNat }]
           awready := false }

/-- The idle AW slot of R103. -/
def restAw (s : State) : State := { s with awready := true }

/-- AW_ACCEPT (R102). -/
def execAwAccept (p : AddrReq) (s : State) : Host.Outcome State Fault Refusal := .next (captureAw p s)

/-- AW_IDLE (R103). -/
def execAwIdle (s : State) : Host.Outcome State Fault Refusal := .next (restAw s)

/-- AW_IDLE_NOTREADY (R103). -/
def execAwIdleNotready (s : State) : Host.Outcome State Fault Refusal := .next (restAw s)

/-- The AW slot's choice (R161): a handshake is AWVALID and AWREADY as they stand at tick start. -/
def awSlot (inp : Inputs) (s : State) : State := if inp.awvalid && s.awready then captureAw inp.aw s else restAw s

end Sys2Proof.Machine
end

