-- ==== Sys2Proof/Machine/BChannel.lean ====
section
/-!
DEFINITION. The B slot: write responses (43_orchestrator.md rules R167 to R169).
-/

namespace Sys2Proof.Machine

/-- The id that B presents: the head's, or 0 for an empty queue (`updateB` of 43_orchestrator.md section 4). -/
def headId : List BEntry → Id
  | [] => 0
  | e :: _ => e.id

/-- `updateB()` (43_orchestrator.md section 4). -/
def updateB (s : State) : State := { s with bvalid := !s.bq.isEmpty, bid := headId s.bq }

/-- The response taken by the manager leaves the queue (R167). -/
def popB (s : State) : State := updateB { s with bq := s.bq.tail }

/-- B_XFER (R167). -/
def execBXfer (s : State) : Host.Outcome State Fault Refusal := .next (popB s)

/-- B_HOLD (R168). -/
def execBHold (s : State) : Host.Outcome State Fault Refusal := .next (updateB s)

/-- B_IDLE (R169). -/
def execBIdle (s : State) : Host.Outcome State Fault Refusal := .next (updateB s)

/-- The B slot's choice (R161). -/
def bSlot (inp : Inputs) (s : State) : State := if s.bvalid && inp.bready then popB s else updateB s

end Sys2Proof.Machine
end

