-- ==== Sys2Proof/Machine/Drain.lean ====
section
/-!
DEFINITION. The DRAIN slot: TIMING mode releases the valid head of the tracking table into the primary queue, at most one
beat a tick (42_inflight_table.md rules R144 to R147; R166 in the other modes).
-/

namespace Sys2Proof.Machine

/-- The release of R144: the head address `a` leaves the order queue (`as` remain), its oldest placeholder `e` leaves
the table (`es` remain) and joins the primary queue, and one beat fewer is in flight. -/
def releaseHead (a : Addr) (as : List Addr) (e : ReadBeat) (es : List ReadBeat) (s : State) : State :=
  { s with
    oq := as
    pending := setPending s a es
    pq := s.pq ++ [e]
    inflight := s.inflight - 1
    drained := true }

/-- No beat was drained in this tick (R146, R147). -/
def noDrain (s : State) : State := { s with drained := false }

/-- DRAIN_BEAT (R144). Not selected, and refused, where there is no head placeholder (R9). -/
def execDrainBeat (s : State) : Host.Outcome State Fault Refusal :=
  match s.oq with
  | [] => .refused (.notSelected "DRAIN_BEAT")
  | a :: as =>
    match pendingAt s a with
    | [] => .refused (.notSelected "DRAIN_BEAT")
    | e :: es => .next (releaseHead a as e es s)

/-- DRAIN_LAST (R145): as R144, and the gap behind the burst's last beat. Not selected, and refused, where there is no
head placeholder (R9). -/
def execDrainLast (s : State) : Host.Outcome State Fault Refusal :=
  match s.oq with
  | [] => .refused (.notSelected "DRAIN_LAST")
  | a :: as =>
    match pendingAt s a with
    | [] => .refused (.notSelected "DRAIN_LAST")
    | e :: es => .next (pushGap (releaseHead a as e es s))

/-- DRAIN_WAIT (R146). -/
def execDrainWait (s : State) : Host.Outcome State Fault Refusal := .next (noDrain s)

/-- DRAIN_EMPTY (R147). -/
def execDrainEmpty (s : State) : Host.Outcome State Fault Refusal := .next (noDrain s)

/-- DRAIN_SKIP (R166). -/
def execDrainSkip (s : State) : Host.Outcome State Fault Refusal := .next s

/-- The DRAIN slot's choice in TIMING mode (R144 to R147). -/
def drainTiming (s : State) : State :=
  match s.oq with
  | [] => noDrain s
  | a :: as =>
    match pendingAt s a with
    | [] => noDrain s
    | e :: es =>
      if e.valid then if e.last then pushGap (releaseHead a as e es s) else releaseHead a as e es s else noDrain s

/-- The DRAIN slot's choice (R161, R166). -/
def drainSlot (s : State) : State :=
  match s.cfg.mode with
  | .functional => s
  | .atomic => s
  | .timing => drainTiming s

end Sys2Proof.Machine
end

