-- ==== Sys2Proof/Machine/Pairing.lean ====
section
/-!
DEFINITION. The PAIR slot: the oldest data beat meets the oldest unfinished write address, at most one a tick
(40_burst_codec.md rules R107 to R111). The WLAST check comes before any byte is written (R201).
-/

namespace Sys2Proof.Machine

/-- The pairing of R107: the strobed lanes are written, the head's address advances, one beat fewer remains. -/
def pairBeat (e : AwEntry) (es : List AwEntry) (w : WBeat) (ws : List WBeat) (s : State) : State :=
  { applyBeat e.addr w s with
    awq := { e with addr := addrAdd e.addr s.cfg.dataBytes, rem := e.rem - 1 } :: es
    wq := ws }

/-- The pairing of R108: the strobed lanes are written, both heads leave, and the burst's response is queued. -/
def pairLast (e : AwEntry) (es : List AwEntry) (w : WBeat) (ws : List WBeat) (s : State) : State :=
  { applyBeat e.addr w s with
    bq := s.bq ++ [{ id := e.id }]
    awq := es
    wq := ws }

/-- WPAIR_BEAT (R107). Not selected, and refused, where a head is missing (R9). -/
def execWpairBeat (s : State) : Host.Outcome State Fault Refusal :=
  match s.awq, s.wq with
  | e :: es, w :: ws => .next (pairBeat e es w ws s)
  | _, _ => .refused (.notSelected "WPAIR_BEAT")

/-- WPAIR_LAST (R108). Not selected, and refused, where a head is missing (R9). -/
def execWpairLast (s : State) : Host.Outcome State Fault Refusal :=
  match s.awq, s.wq with
  | e :: es, w :: ws => .next (pairLast e es w ws s)
  | _, _ => .refused (.notSelected "WPAIR_LAST")

/-- WFAULT_EARLY (R109). -/
def execWfaultEarly (s : State) : Host.Outcome State Fault Refusal := .next (raiseFault .wlastEarly s)

/-- WFAULT_MISSING (R110). -/
def execWfaultMissing (s : State) : Host.Outcome State Fault Refusal := .next (raiseFault .wlastMissing s)

/-- WPAIR_IDLE_NOAW (R111). -/
def execWpairIdleNoaw (s : State) : Host.Outcome State Fault Refusal := .next s

/-- WPAIR_IDLE_NOW (R111). -/
def execWpairIdleNow (s : State) : Host.Outcome State Fault Refusal := .next s

/-- The PAIR slot's choice (R161, R107 to R111). -/
def pairSlot (s : State) : State :=
  match s.awq, s.wq with
  | e :: es, w :: ws =>
    if e.rem = 0 then if w.last then pairLast e es w ws s else raiseFault .wlastMissing s
    else if w.last then raiseFault .wlastEarly s else pairBeat e es w ws s
  | _, _ => s

end Sys2Proof.Machine
end

