-- ==== Sys2Proof/Machine/RChannel.lean ====
section
/-!
DEFINITION. The R slot: at most one beat a tick moves from the primary queue through the latency register to the output
(41_latency_pipeline.md rules R124 to R127).
-/

namespace Sys2Proof.Machine

/-- The advance of R124 with the queued beat `x`, `xs` staying queued. -/
def advanceWith (x : ReadBeat) (xs : List ReadBeat) (s : State) : State := shift x { s with pq := xs }

/-- The advance of R125 with a FILL sentinel (R123). -/
def advanceFill (s : State) : State := shift (fillBeat s.cfg.nwords) s

/-- R_XFER_SHIFT (R124). Not selected, and refused, where nothing is queued (R9). -/
def execRXferShift (s : State) : Host.Outcome State Fault Refusal :=
  match s.pq with
  | [] => .refused (.notSelected "R_XFER_SHIFT")
  | x :: xs => .next (advanceWith x xs s)

/-- R_FREE_SHIFT (R124). Not selected, and refused, where nothing is queued (R9). -/
def execRFreeShift (s : State) : Host.Outcome State Fault Refusal :=
  match s.pq with
  | [] => .refused (.notSelected "R_FREE_SHIFT")
  | x :: xs => .next (advanceWith x xs s)

/-- R_XFER_FILL (R125). -/
def execRXferFill (s : State) : Host.Outcome State Fault Refusal := .next (advanceFill s)

/-- R_FREE_FILL (R125). -/
def execRFreeFill (s : State) : Host.Outcome State Fault Refusal := .next (advanceFill s)

/-- R_HOLD (R126). -/
def execRHold (s : State) : Host.Outcome State Fault Refusal := .next s

/-- The pipeline moves one beat on: the head of `pq`, or a FILL sentinel where it is empty (R124, R125). -/
def advance (s : State) : State :=
  match s.pq with
  | [] => advanceFill s
  | x :: xs => advanceWith x xs s

/-- The R slot's choice (R161): a valid beat waits for RREADY, and everything else advances (R126, R132). -/
def rSlot (inp : Inputs) (s : State) : State := if s.rout.valid && !inp.rready then s else advance s

end Sys2Proof.Machine
end

