-- ==== Sys2Proof/Machine/WChannel.lean ====
section
/-!
DEFINITION. The W slot: write-data capture (40_burst_codec.md rules R104, R105). WREADY is always 1 (R22).
-/

namespace Sys2Proof.Machine

/-- The capture of R104. -/
def captureW (w : WBeat) (s : State) : State := { s with wq := s.wq ++ [w], wready := true }

/-- The idle W slot of R105. -/
def restW (s : State) : State := { s with wready := true }

/-- W_ACCEPT (R104). -/
def execWAccept (w : WBeat) (s : State) : Host.Outcome State Fault Refusal := .next (captureW w s)

/-- W_IDLE (R105). -/
def execWIdle (s : State) : Host.Outcome State Fault Refusal := .next (restW s)

/-- W_IDLE_NOTREADY (R105). DESIGN CHOICE (log 21): no run reaches WREADY = 0, and the spec's files differ on the row there.
R105's pseudocode writes 1, which the model follows; 93_implementation_defined.md section 2 says "no effect if decoded". -/
def execWIdleNotready (s : State) : Host.Outcome State Fault Refusal := .next (restW s)

/-- The W slot's choice (R161); with WVALID = 1 and WREADY = 0 it is W_IDLE_NOTREADY's effect (log 21). -/
def wSlot (inp : Inputs) (s : State) : State := if inp.wvalid && s.wready then captureW inp.w s else restW s

end Sys2Proof.Machine
end

