-- ==== Sys2Proof/Machine/Gate.lean ====
section
/-!
DEFINITION. The tick: one evaluation of the block for one clock cycle (43_orchestrator.md rules R161, R162),
and what it delivers on the R channel (41_latency_pipeline.md rule R128).
-/

namespace Sys2Proof.Machine

/-- The slots of a tick up to PAIR, in the order of R161. -/
def evaluateFront (inp : Inputs) (s : State) : State := pairSlot (arSlot inp (wSlot inp (awSlot inp s)))

/-- The slots of a tick after PAIR, in the order of R161. -/
def evaluateBack (inp : Inputs) (s : State) : State := bSlot inp (rSlot inp (arrdySlot (drainSlot s)))

/-- One evaluation of an unfaulted block (R161): the eight slots in order; a fault raised in PAIR ends the tick, and the
later slots do not run (R201). -/
def evaluate (inp : Inputs) (s : State) : State :=
  if faulted (evaluateFront inp s) then evaluateFront inp s else evaluateBack inp (evaluateFront inp s)

/-- The beat that a tick delivers to the manager: the presented beat, in a tick whose R slot runs and matches R_XFER_SHIFT or
R_XFER_FILL (R128). A tick that PAIR ends, and a tick of a faulted block, run no R slot and deliver nothing. -/
def delivered (inp : Inputs) (s : State) : Option ReadBeat :=
  if faulted s || faulted (evaluateFront inp s) then none
  else if s.rout.valid && inp.rready then some s.rout
  else none

/-- TICK (R161). Not selected, and refused, while FAULT = 1 (R84). -/
def execTick (inp : Inputs) (s : State) : Host.Outcome State Fault Refusal :=
  if faulted s then .refused (.notSelected "TICK") else .next (evaluate inp s)

/-- TICK_FAULTED (R162): no slot runs and nothing changes. Not selected, and refused, while FAULT = 0 (R84). -/
def execTickFaulted (s : State) : Host.Outcome State Fault Refusal :=
  if faulted s then .next s else .refused (.notSelected "TICK_FAULTED")

end Sys2Proof.Machine
end

