-- ==== Sys2Proof/Machine/Query.lean ====
section
/-!
DEFINITION. The host's query (42_inflight_table.md rule R152).
-/

namespace Sys2Proof.Machine

/-- `requestsOnFlight()` (R152). -/
def requestsOnFlight (s : State) : Nat := s.inflight

/-- QUERY_INFLIGHT (R152): the count is returned to the host and no state of the block changes. The returned value is
recorded in the model's own field `hostAnswer` (log 11). -/
def execQueryInflight (s : State) : Host.Outcome State Fault Refusal :=
  .next { s with hostAnswer := some (requestsOnFlight s) }

end Sys2Proof.Machine
end

