-- ==== Sys2Proof/Machine/Reset.lean ====
section
/-!
DEFINITION. Reset is construction: one step that builds the whole block from a configuration (70_reset_and_hazards.md
rules R220, R221).
-/

namespace Sys2Proof.Machine

/-- The value of ARREADY at reset (R220): in TIMING mode `W_EFF >= 1`, else 1. -/
def resetArready (c : Config) : Bool :=
  match c.mode with
  | .functional => true
  | .atomic => true
  | .timing => decide (1 ≤ c.wEff)

/-- The block that R220 builds from `c`. The environment's steps and the count of free values drawn are not the block's,
and stay (log 14). -/
def buildBlock (c : Config) (s : State) : State :=
  { cfg := c
    awready := true
    wready := true
    bvalid := false
    bid := 0
    arready := resetArready c
    awq := []
    wq := []
    bq := []
    pq := []
    lq := List.replicate c.rLatency (bootBeat c.nwords)
    rout := bootBeat c.nwords
    pending := []
    oq := []
    inflight := 0
    mem := []
    fault := .none
    events := []
    drained := false
    cycle := 0
    hostAnswer := none
    stim := s.stim
    draws := s.draws }

/-- A RESET with a given mode: the block is built, or a configuration outside R5's legal values is refused (R221). -/
def resetTo (m : Mode) (p : Params) (s : State) : Host.Outcome State Fault Refusal :=
  if p.legal then .next (buildBlock { toParams := p, mode := m } s) else .refused .illegalConfig

/-- RESET_F (R220). -/
def execResetF (p : Params) (s : State) : Host.Outcome State Fault Refusal := resetTo .functional p s

/-- RESET_A (R220). -/
def execResetA (p : Params) (s : State) : Host.Outcome State Fault Refusal := resetTo .atomic p s

/-- RESET_T (R220). -/
def execResetT (p : Params) (s : State) : Host.Outcome State Fault Refusal := resetTo .timing p s

/-- RESET_RESERVED (R221): "refuse. No state is built". -/
def execResetReserved (_s : State) : Host.Outcome State Fault Refusal := .refused .reservedMode

end Sys2Proof.Machine
end

