-- ==== Sys2Proof/Machine/Dispatch.lean ====
section
/-!
DEFINITION. The dispatch: one arm per row of spec/opcode_table.json.
-/

namespace Sys2Proof.Machine

/-- The meaning of an operation. -/
def exec (i : Instr) (s : State) : Host.Outcome State Fault Refusal :=
  match i with
  | .tick inp => Sys2Proof.Machine.execTick inp s
  | .tickFaulted => Sys2Proof.Machine.execTickFaulted s
  | .awAccept p => Sys2Proof.Machine.execAwAccept p s
  | .awIdle => Sys2Proof.Machine.execAwIdle s
  | .awIdleNotready => Sys2Proof.Machine.execAwIdleNotready s
  | .wAccept w => Sys2Proof.Machine.execWAccept w s
  | .wIdle => Sys2Proof.Machine.execWIdle s
  | .wIdleNotready => Sys2Proof.Machine.execWIdleNotready s
  | .arAcceptF p => Sys2Proof.Machine.execArAcceptF p s
  | .arAcceptA p => Sys2Proof.Machine.execArAcceptA p s
  | .arAcceptT p => Sys2Proof.Machine.execArAcceptT p s
  | .arIdle => Sys2Proof.Machine.execArIdle s
  | .arIdleNotready => Sys2Proof.Machine.execArIdleNotready s
  | .wpairBeat => Sys2Proof.Machine.execWpairBeat s
  | .wpairLast => Sys2Proof.Machine.execWpairLast s
  | .wfaultEarly => Sys2Proof.Machine.execWfaultEarly s
  | .wfaultMissing => Sys2Proof.Machine.execWfaultMissing s
  | .wpairIdleNoaw => Sys2Proof.Machine.execWpairIdleNoaw s
  | .wpairIdleNow => Sys2Proof.Machine.execWpairIdleNow s
  | .drainBeat => Sys2Proof.Machine.execDrainBeat s
  | .drainLast => Sys2Proof.Machine.execDrainLast s
  | .drainWait => Sys2Proof.Machine.execDrainWait s
  | .drainEmpty => Sys2Proof.Machine.execDrainEmpty s
  | .drainSkip => Sys2Proof.Machine.execDrainSkip s
  | .arrdyTDrained => Sys2Proof.Machine.execArrdyTDrained s
  | .arrdyTOpen => Sys2Proof.Machine.execArrdyTOpen s
  | .arrdyTFull => Sys2Proof.Machine.execArrdyTFull s
  | .arrdySkip => Sys2Proof.Machine.execArrdySkip s
  | .rXferShift => Sys2Proof.Machine.execRXferShift s
  | .rFreeShift => Sys2Proof.Machine.execRFreeShift s
  | .rXferFill => Sys2Proof.Machine.execRXferFill s
  | .rFreeFill => Sys2Proof.Machine.execRFreeFill s
  | .rHold => Sys2Proof.Machine.execRHold s
  | .bXfer => Sys2Proof.Machine.execBXfer s
  | .bHold => Sys2Proof.Machine.execBHold s
  | .bIdle => Sys2Proof.Machine.execBIdle s
  | .cplFill a bytes => Sys2Proof.Machine.execCplFill a bytes s
  | .cplUnexpected a => Sys2Proof.Machine.execCplUnexpected a s
  | .cplFaulted => Sys2Proof.Machine.execCplFaulted s
  | .resetF p => Sys2Proof.Machine.execResetF p s
  | .resetA p => Sys2Proof.Machine.execResetA p s
  | .resetT p => Sys2Proof.Machine.execResetT p s
  | .resetReserved => Sys2Proof.Machine.execResetReserved s
  | .queryInflight => Sys2Proof.Machine.execQueryInflight s

end Sys2Proof.Machine
end

