-- ==== Sys2Proof/Machine/Fetch.lean ====
section
/-!
DEFINITION. Fetching: the environment's next step, the code it stands for (R81, R83, R86), and the placing of a bare table
word.
-/

namespace Sys2Proof.Machine

/-- The environment's next step (R210): the first one placed, or a free value where none is (log 1, log 2). -/
def nextStimulus (s : State) : Stimulus :=
  match s.stim with
  | [] => Config.environment s.draws
  | x :: _ => x

/-- The state once that step is taken off. -/
def takeStimulus (s : State) : State :=
  match s.stim with
  | [] => { s with draws := s.draws + 1 }
  | _ :: xs => { s with stim := xs }

/-- One more tick: the cycle index "advances by exactly one per tick" (R37). -/
def countCycle (x : Stimulus) (s : State) : State :=
  match x with
  | .tick _ _ _ _ => { s with cycle := s.cycle + 1 }
  | .complete _ _ => s
  | .reset _ _ => s
  | .query => s

/-- The state in which the next environment step's operation is executed. -/
def fetchState (s : State) : State := countCycle (nextStimulus s) (takeStimulus s)

/-- The code of an environment step: its format by KIND, its OSV as it stands at step start (R83), and its operand. -/
def stimulusCode (x : Stimulus) (s : State) : Code :=
  match x with
  | .tick icw aw w ar =>
    { format := .gate
      osv := osvTickStart (icw.getLsbD 0) (icw.getLsbD 1) (icw.getLsbD 3) (icw.getLsbD 4) (icw.getLsbD 5) s
      operand := .cycle icw aw w ar }
  | .complete a bytes =>
    { format := .complete
      osv := osvStep s.cfg.mode.bits 1 s ||| osvBit 25 (cplMatch s a)
      operand := .completion a bytes }
  | .reset m p => { format := .reset, osv := osvStep m 2 s, operand := .config p }
  | .query => { format := .query, osv := osvStep s.cfg.mode.bits 3 s, operand := .none }

/-- The code that `step` decodes. -/
def fetchCode (s : State) : Code := stimulusCode (nextStimulus s) s

/-- The environment step that a table word stands with, its operand zeros: for a TICK word, the VALID and READY inputs
that the word's slot reads. -/
def wordStimulus (osv : Osv) (s : State) : Stimulus :=
  match formatOfWord osv with
  | .complete => .complete 0 (List.replicate s.cfg.dataBytes 0)
  | .reset => .reset (osv.setWidth 2) s.cfg.toParams
  | .query => .query
  | .gate => .tick 0 0 0 0
  | .aw => .tick (BitVec.ofNat 6 (osv.getLsbD 5).toNat) 0 0 0
  | .w => .tick (BitVec.ofNat 6 (2 * (osv.getLsbD 7).toNat)) 0 0 0
  | .ar => .tick (BitVec.ofNat 6 (8 * (osv.getLsbD 9).toNat)) 0 0 0
  | .pair => .tick 0 0 0 0
  | .drain => .tick 0 0 0 0
  | .arrdy => .tick 0 0 0 0
  | .r => .tick (BitVec.ofNat 6 (16 * (osv.getLsbD 21).toNat)) 0 0 0
  | .b => .tick (BitVec.ofNat 6 (32 * (osv.getLsbD 24).toNat)) 0 0 0

/-- MODE as a table word says it; a RESET word's MODE is the new block's, and `11` is no mode. -/
def wordMode (osv : Osv) (s : State) : State :=
  if formatOfWord osv = .reset then s
  else if osv &&& 3 = 0 then { s with cfg := { s.cfg with mode := .functional } }
  else if osv &&& 3 = 1 then { s with cfg := { s.cfg with mode := .atomic } }
  else if osv &&& 3 = 2 then { s with cfg := { s.cfg with mode := .timing } }
  else s

/-- FAULT as a table word says it. -/
def wordFault (osv : Osv) (s : State) : State :=
  if osv.getLsbD 4 then if faulted s then s else { s with fault := .wlastEarly } else { s with fault := .none }

/-- One outstanding read beat at address 0, valid and last as said. -/
def wordOutstanding (valid last : Bool) (s : State) : State :=
  { s with oq := [0], inflight := 1
           pending := [(0, [{ placeholder s.cfg.nwords 0 last with valid := valid }])] }

/-- The status that the word's own slot samples, set as the word's bits say (R83). -/
def wordStatus (osv : Osv) (s : State) : State :=
  match formatOfWord osv with
  | .gate => s
  | .reset => s
  | .query => s
  | .aw => { s with awready := osv.getLsbD 6 }
  | .w => { s with wready := osv.getLsbD 8 }
  | .ar => { s with arready := osv.getLsbD 10 }
  | .pair =>
    { s with
      awq := if osv.getLsbD 11 then [{ id := 0, addr := 0, rem := if osv.getLsbD 14 then 0 else 1 }] else []
      wq := if osv.getLsbD 12 then
          [{ data := List.replicate s.cfg.nwords 0, strb := List.replicate s.cfg.dataBytes false, last := osv.getLsbD 13 }]
        else [] }
  | .drain =>
    if osv.getLsbD 15 then wordOutstanding (osv.getLsbD 16) (osv.getLsbD 17) s
    else { s with oq := [], pending := [], inflight := 0 }
  | .arrdy =>
    if osv.getLsbD 19 then wordOutstanding true true s
    else { s with oq := [], pending := [], inflight := if osv.getLsbD 18 then 0 else s.cfg.wEff }
  | .r =>
    { s with
      rout := { s.rout with valid := osv.getLsbD 20 }
      pq := if osv.getLsbD 22 then [gapBeat s.cfg.nwords] else [] }
  | .b => if osv.getLsbD 23 then { s with bvalid := true, bid := 0, bq := [{ id := 0 }] }
          else { s with bvalid := false, bid := 0, bq := [] }
  | .complete => if osv.getLsbD 25 then wordOutstanding false false s else { s with oq := [], pending := [], inflight := 0 }

/-- A bare table word placed so that the very next step selects its row: the mode, the fault bit, the status that its
slot samples, and the environment step. -/
def placeWord (osv : Osv) (s : State) : State :=
  { wordStatus osv (wordFault osv (wordMode osv s)) with stim := wordStimulus osv s :: s.stim }

end Sys2Proof.Machine
end

