-- ==== Sys2Proof/Machine/Step.lean ====
section
/-!
DEFINITION. One step of the machine: one step of its environment, decoded by the opcode table and executed (R210).
-/

namespace Sys2Proof.Machine

/-- One step (R210): the next environment step is taken (`fetch`), its code is read by the decoder (R84), and the decoded
operation is executed in the state that the fetch left. -/
def step (s : State) : Host.Outcome State Fault Refusal :=
  match decode s.cfg.dataBytes (fetchCode s) with
  | .ok i => exec i (fetchState s)
  | .error .noRow => .fault .noRow
  | .error e => .refused (.undecodable e)

/-- `s` with the operation of a bare table word where `step` fetches next: its step placed at the head of `stim`, and the
status that the word's own bits name set as those bits say (log 7). -/
def State.withFetchWord (s : State) (nbits w : Nat) : State :=
  if nbits ≤ 32 ∧ w < 2 ^ 32 then placeWord (BitVec.ofNat 32 w) s else s

end Sys2Proof.Machine
end

