-- ==== Sys2Proof/Machine/TableTick.lean ====
section
/-!
DEFINITION. The tick read from the opcode table (R84): each slot's OSV is assembled and decoded, and the decoded row is
executed. R84 allows a tick that decodes each slot with the table and one that makes the same choices directly, and says
that "the table and the rules must agree"; `execTick` is the second, this is the first.
-/

namespace Sys2Proof.Machine

/-- The operand that a slot's row reads from the cycle's inputs (R102, R104, R141, R163, R164). -/
def slotOperand (db : Nat) (f : Format) (inp : Inputs) : Operand :=
  match f with
  | .aw => .addr (packAddr inp.aw)
  | .w => .data (packW db inp.w)
  | .ar => .addr (packAddr inp.ar)
  | .gate => .none
  | .pair => .none
  | .drain => .none
  | .arrdy => .none
  | .r => .none
  | .b => .none
  | .complete => .none
  | .reset => .none
  | .query => .none

/-- The slots of a tick in their order (R84, R161). -/
def slotOrder : List Format := [.aw, .w, .ar, .pair, .drain, .arrdy, .r, .b]

/-- The code of a slot whose earlier slots left the OSV `osv`: the slot's own bits join it (R83). -/
def slotCode (inp : Inputs) (f : Format) (osv : Osv) (s : State) : Code :=
  { format := f, osv := osv ||| osvSlot f s, operand := slotOperand s.cfg.dataBytes f inp }

/-- The slots `fs`, each decoded from the table and executed. After a fault no later slot is decoded (R84). -/
def runSlots (inp : Inputs) : List Format → Osv → State → Host.Outcome State Fault Refusal
  | [], _, s => .next s
  | f :: fs, osv, s =>
    if faulted s then .next s
    else
      match decode s.cfg.dataBytes (slotCode inp f osv s) with
      | .error e => .refused (.undecodable e)
      | .ok i =>
        match exec i s with
        | .next s' => runSlots inp fs (osv ||| osvSlot f s) s'
        | .fault r => .fault r
        | .refused r => .refused r

/-- The OSV of a tick as its inputs and the registers stand at tick start (R83). -/
def tickStartOsv (inp : Inputs) (s : State) : Osv :=
  osvTickStart inp.awvalid inp.wvalid inp.arvalid inp.rready inp.bready s

/-- The tick of R84. -/
def tickByTable (inp : Inputs) (s : State) : Host.Outcome State Fault Refusal :=
  runSlots inp slotOrder (tickStartOsv inp s) s

/-- The OSV bits that the slots of an unfaulted block's tick sample (R83); after a fault in PAIR no later slot is decoded, and
its bits are 0 (R84, log 16). -/
def slotsOsv (inp : Inputs) (s : State) : Osv :=
  osvSlot .pair (arSlot inp (wSlot inp (awSlot inp s))) |||
    (if faulted (evaluateFront inp s) then 0
     else
      osvSlot .drain (evaluateFront inp s) ||| osvSlot .arrdy (drainSlot (evaluateFront inp s)) |||
        osvSlot .r (arrdySlot (drainSlot (evaluateFront inp s))))

/-- The whole OSV of a tick, each bit as it was sampled (R83). A tick of a faulted block runs no slot (R84, R162), and the slots'
bits are 0 (log 16). -/
def tickOsv (inp : Inputs) (s : State) : Osv :=
  tickStartOsv inp s ||| (if faulted s then 0 else slotsOsv inp s)

end Sys2Proof.Machine
end

