-- ==== Sys2Proof/Safety.lean ====
section
/-!
DEFINITION. What a good state is: the invariants of 10_state.md rule R40 and of the rules it draws on. And the terms that
the statements about the block use: a fresh block, the order of the read beats, and a run.
-/

namespace Sys2Proof.Machine

/-- A run has not failed: no fault is recorded (R202: "A model must treat a faulted state as the end of a failed run"). -/
def Safe (s : State) : Prop := s.fault = .none

/-- R40 item 1: the latency register is exactly `R_LATENCY` beats deep. -/
def LatencyDepth (s : State) : Prop := s.lq.length = s.cfg.rLatency

/-- R40 item 2: each address is pending as often as it stands in the order queue. -/
def PendingMatchesOrder (s : State) : Prop := ∀ a : Addr, (pendingAt s a).length = s.oq.count a

/-- R40 item 3. -/
def InflightCounts (s : State) : Prop := s.inflight = s.oq.length

/-- R40 item 4: outside TIMING mode the tracking table is empty. -/
def TableIdle (s : State) : Prop := s.cfg.mode ≠ .timing → s.oq = [] ∧ s.pending = [] ∧ s.inflight = 0

/-- R40 item 5, R35: B presents the head of its queue, and id 0 for an empty one. -/
def ResponsePresented (s : State) : Prop := s.bvalid = !s.bq.isEmpty ∧ s.bid = headId s.bq

/-- R40 item 6, first half: a write burst has at most `2^LEN_W` beats to come. -/
def BurstsBounded (s : State) : Prop := ∀ e ∈ s.awq, e.rem ≤ 2 ^ 8 - 1

/-- R22: WREADY reads 1 in every cycle. -/
def WreadyHigh (s : State) : Prop := s.wready = true

/-- The Block Store and the pending table are in canonical form. -/
def Canonical (s : State) : Prop := Memory.wf s.mem = true ∧ pendingWf s.pending = true

/-- R154: in TIMING mode, ARREADY is 1 in an unfaulted block only while the window has room, and the count stays within
`W_EFF - 1 + 2^LEN_W`, or 0 for a zero window. -/
def WindowBounded (s : State) : Prop :=
  s.cfg.mode = .timing →
    (s.fault = .none → s.arready = true → s.inflight < s.cfg.wEff) ∧
    (1 ≤ s.cfg.wEff → s.inflight ≤ s.cfg.wEff - 1 + 2 ^ 8) ∧
    (s.cfg.wEff = 0 → s.inflight = 0 ∧ s.arready = false)

/-- R177: in FUNCTIONAL mode the block has made no backend call. -/
def FunctionalSilent (s : State) : Prop := s.cfg.mode = .functional → s.events = []

/-- The configuration the block was built with is legal (R6, R221). -/
def ConfigLegal (s : State) : Prop := s.cfg.legal = true

/-- The invariants of R40, with those of R22, R154 and R177 and the canonical form of the tables. -/
structure Inv (s : State) : Prop where
  configLegal : ConfigLegal s
  latencyDepth : LatencyDepth s
  pendingMatchesOrder : PendingMatchesOrder s
  inflightCounts : InflightCounts s
  tableIdle : TableIdle s
  responsePresented : ResponsePresented s
  burstsBounded : BurstsBounded s
  wreadyHigh : WreadyHigh s
  canonical : Canonical s
  windowBounded : WindowBounded s
  functionalSilent : FunctionalSilent s

/-- A block as R220's table of reset values gives it, for the configuration `c`: every field, every byte, every address.
The fields that are not the block's (`stim`, `draws`) are those of `s`. -/
structure FreshBlock (c : Config) (s t : State) : Prop where
  cfg : t.cfg = c
  queues : t.awq = [] ∧ t.wq = [] ∧ t.bq = [] ∧ t.pq = []
  latencyLength : t.lq.length = c.rLatency
  latencyBoot : ∀ b ∈ t.lq, b.valid = false ∧ b.id = 0 ∧ b.last = false ∧ b.data = List.replicate c.nwords 0xAAAAAAAA
  routBoot : t.rout.valid = false ∧ t.rout.id = 0 ∧ t.rout.last = false ∧
    t.rout.data = List.replicate c.nwords 0xAAAAAAAA
  pending : ∀ a, pendingAt t a = []
  order : t.oq = [] ∧ t.inflight = 0
  mem : ∀ a, readByte t.mem a = 0
  fault : t.fault.code = 0
  events : t.events = []
  awready : t.awready = true
  wready : t.wready = true
  arready : t.arready = true ↔ (c.mode = .timing → 1 ≤ min c.maxInflight c.inflightCeil)
  response : t.bvalid = false ∧ t.bid = 0
  cycle : t.cycle = 0
  environment : t.stim = s.stim ∧ t.draws = s.draws

/-- The requests that the strobed lanes of a data beat make to the backend, in ascending lane order (R57, R106):
none in FUNCTIONAL mode. -/
def laneWrites (m : Mode) (db : Nat) (a : Addr) (w : WBeat) : List BackendEvent :=
  match m with
  | .functional => []
  | .atomic => ((List.range db).filter fun i => w.strb.getD i false).map fun i =>
      .write (addrAdd a i) (lane w.data i) false
  | .timing => ((List.range db).filter fun i => w.strb.getD i false).map fun i =>
      .write (addrAdd a i) (lane w.data i) true

/-- The beats of the latency pipeline in delivery order, the presented one first (R129). -/
def pipeline (s : State) : List ReadBeat := s.rout :: (s.lq ++ s.pq)

/-- What tells read beats apart on the R channel besides their data: RID and RLAST. -/
def beatTag (b : ReadBeat) : Id × Bool := (b.id, b.last)

/-- The tags of the outstanding beats in request order: the k-th occurrence of an address in the order queue is the
k-th placeholder at that address (R40 item 2). -/
def orderTags : List Addr → List (Nat × List ReadBeat) → List (Id × Bool)
  | [], _ => []
  | a :: as, m =>
    match tableGet [] m a.toNat with
    | [] => []
    | e :: es => beatTag e :: orderTags as (tableSet [] m a.toNat es)

/-- The tags of every read beat that the block still has to deliver, in the order in which it will (R129, R153): the
valid beats of the pipeline, then the outstanding ones. -/
def readStream (s : State) : List (Id × Bool) :=
  ((pipeline s).filter fun b => b.valid).map beatTag ++ orderTags s.oq s.pending

/-- The tags of the beats that a cycle's AR handshake asks for (R100, R161). -/
def requestedTags (inp : Inputs) (s : State) : List (Id × Bool) :=
  if inp.arvalid && s.arready then (burstOf s.cfg.dataBytes inp.ar).map fun b => (inp.ar.id, b.2) else []

/-- `s` on a block whose Block Store has another block size. -/
def withBlockBytes (n : Nat) (s : State) : State := { s with cfg := { s.cfg with blockBytes := n } }

/-- An outcome with every next state changed by `f`. -/
def mapNext (f : State → State) : Host.Outcome State Fault Refusal → Host.Outcome State Fault Refusal
  | .next s => .next (f s)
  | .fault r => .fault r
  | .refused r => .refused r

/-- The environment steps that the formats can write and reset rules accept (R71, R86, R87, R221): a W group that is
present fits its payload and agrees with the ICW about WLAST, a completion has `DATA_BYTES` bytes, a RESET's MODE is not
`11` and its values are legal. -/
def Writable (db : Nat) : Stimulus → Prop
  | .tick icw _ w _ => icw.getLsbD 1 = true → w < 2 ^ (9 * db + 1) ∧ icw.getLsbD 2 = w.testBit (9 * db)
  | .complete _ bytes => bytes.length = db
  | .reset m p => m ≠ 3 ∧ p.legal = true
  | .query => True

/-- What a data beat written at beat address `a` does to the Block Store, byte by byte (R106, R113): each lane whose strobe
bit is set holds the beat's byte, and every other byte reads as before. -/
def StrobedWrite (db : Nat) (a : Addr) (w : WBeat) (m m' : List Host.Cell) : Prop :=
  (∀ i < db, w.strb.getD i false = true → readByte m' (a + BitVec.ofNat 64 i) = lane w.data i) ∧
  (∀ b, (∀ i < db, w.strb.getD i false = true → b ≠ a + BitVec.ofNat 64 i) → readByte m' b = readByte m b)

/-- The legal configuration values in the words of R5. -/
def LegalValues (p : Params) : Prop := (∃ k, p.dataBytes = 2 ^ k) ∧ 4 ≤ p.dataBytes ∧ 1 ≤ p.blockBytes

/-- An operation is one of the RESET rows. -/
def IsReset (i : Instr) : Prop := ∃ p, i = .resetF p ∨ i = .resetA p ∨ i = .resetT p

/-- Consecutive TICK steps, one per cycle's inputs, as long as each answers a next state (R161). -/
def runTicks : List Inputs → State → Option State
  | [], s => some s
  | inp :: inps, s =>
    match exec (.tick inp) s with
    | .next t => runTicks inps t
    | .fault _ => none
    | .refused _ => none

/-- A run: steps that each answer a next state (R210). -/
inductive Reaches : State → State → Prop where
  | refl (s : State) : Reaches s s
  | step {s t u : State} : Reaches s t → Sys2Proof.Machine.step t = .next u → Reaches s u

end Sys2Proof.Machine
end

