-- ==== Sys2Proof/Certificates/Slice0/Obligations.lean ====
section
/-!
DEFINITION. The statements for the provers. Each docstring names the rule of spec/ that the statement formalises.
-/

open Sys2Proof Sys2Proof.Machine

/-! ### Encoding and decode -/

/-- Decoding an encoded well-formed operation gives it back, whatever the bus width and the operands (R70, R71, R73, R84,
R86, R87). -/
def Obligations.DecodeOfEncodeIsTheOperation : Prop :=
  ∀ (db : Nat) (i : Instr), i.wellFormed db = true → decode db (encode db i) = .ok i

/-- The OSV bits outside a row's mask do not matter: any OSV that matches the operation's row decodes to it (R84). -/
def Obligations.UnmaskedOsvBitsDoNotMatter : Prop :=
  ∀ (db : Nat) (i : Instr) (r : Row) (osv : Osv),
    i.wellFormed db = true → rowOf i.opcode = some r → osv &&& r.mask = r.pattern → osv >>> 26 = 0 →
    (r.format = .reset ∨ osv &&& 3 ≠ 3) →
    decode db { format := r.format, osv := osv, operand := i.operand db } = .ok i

/-- No OSV matches two rows of one format (R84: "exactly one row"). -/
def Obligations.NoTwoRowsOfAFormatMatch : Prop :=
  ∀ (f : Format) (osv : Osv), ∀ r ∈ rows, ∀ r' ∈ rows,
    r.selects f osv = true → r'.selects f osv = true → r = r'

/-- Words written out from the spec's encodings decode to what they stand for: the cycles of V-E1 and V-E2 and the two cycles of
program P5 in which RREADY and BREADY differ (R86), and words of the other formats (V-E1, V-E4, O1, O3, O4, O8, O9, and
the RESET rows of R89). -/
def Obligations.SpecWordsDecode : Prop :=
  decode 4 ⟨.gate, 0x01201DE0, .cycle 0x33 0x01050000000000000100 0xFDDCCBBAA 0⟩ = .ok (.tick
    { awvalid := true, aw := ⟨5, 0x100, 1⟩, wvalid := true, w := ⟨[0xDDCCBBAA], [true, true, true, true], false⟩
      arvalid := false, ar := ⟨0, 0, 0⟩, rready := true, bready := true }) ∧
  decode 4 ⟨.gate, 0, .cycle 0x38 0 0 0x01030000000000000040⟩ = .ok (.tick
    { awvalid := false, aw := ⟨0, 0, 0⟩, wvalid := false, w := ⟨[0], [false, false, false, false], false⟩
      arvalid := true, ar := ⟨3, 0x40, 1⟩, rready := true, bready := true }) ∧
  decode 4 ⟨.gate, 0, .cycle 0x18 0 0 0x01020000000000000010⟩ = .ok (.tick
    { awvalid := false, aw := ⟨0, 0, 0⟩, wvalid := false, w := ⟨[0], [false, false, false, false], false⟩
      arvalid := true, ar := ⟨2, 0x10, 1⟩, rready := true, bready := false }) ∧
  decode 4 ⟨.gate, 0, .cycle 0x20 0 0 0⟩ = .ok (.tick
    { awvalid := false, aw := ⟨0, 0, 0⟩, wvalid := false, w := ⟨[0], [false, false, false, false], false⟩
      arvalid := false, ar := ⟨0, 0, 0⟩, rready := false, bready := true }) ∧
  decode 4 ⟨.aw, 0x01201DE0, .addr 0x01050000000000000100⟩ = .ok (.awAccept { id := 5, addr := 0x100, len := 1 }) ∧
  decode 4 ⟨.w, 0x01201DE0, .data 0xFDDCCBBAA⟩ =
    .ok (.wAccept { data := [0xDDCCBBAA], strb := [true, true, true, true], last := false }) ∧
  decode 8 ⟨.w, 0x180, .data 0xA57766554433221100⟩ =
    .ok (.wAccept { data := [0x33221100, 0x77665544],
                    strb := [true, false, true, false, false, true, false, true], last := false }) ∧
  decode 4 ⟨.pair, 0x01201DE0, .none⟩ = .ok .wpairBeat ∧
  decode 4 ⟨.drain, 0x016F8542, .none⟩ = .ok .drainLast ∧
  decode 4 ⟨.complete, 0x02000006, .completion 0xB0 [0xB0, 0xB1, 0xB2, 0xB3]⟩ =
    .ok (.cplFill 0xB0 [0xB0, 0xB1, 0xB2, 0xB3]) ∧
  decode 4 ⟨.reset, 0x00000008, .config Params.example⟩ = .ok (.resetF Params.example) ∧
  decode 4 ⟨.reset, 0x00000009, .config Params.example⟩ = .ok (.resetA Params.example) ∧
  decode 4 ⟨.reset, 0x0000000A, .config Params.example⟩ = .ok (.resetT Params.example) ∧
  decode 4 ⟨.reset, 0x0000000B, .config Params.example⟩ = .ok .resetReserved ∧
  decode 4 ⟨.query, 0x0000000E, .none⟩ = .ok .queryInflight

/-- An OSV with a reserved bit set is no operation (R83, R85). Nor is one with MODE `11` outside a RESET: that the decoder
refuses it is the model's reading of R80, which says only that no block has that mode (log 19). -/
def Obligations.ReservedEncodingsAreRefused : Prop :=
  ∀ (db : Nat) (c : Code),
    (c.osv >>> 26 ≠ 0 → decode db c = .error .reservedBits) ∧
    (c.osv >>> 26 = 0 → c.format ≠ .reset → c.osv &&& 3 = 3 → decode db c = .error .reservedMode)

/-! ### The step -/

/-- A step executes the operation that the next environment step decodes to, in the state with that step taken off and,
for a TICK, the cycle index one on (R37, R84, R210). Where no step is placed, the step is the one that the environment's
free choice placed there would give (the model's reading of R210, log 1 and log 2). -/
def Obligations.StepRunsTheDecodedOperation : Prop :=
  ∀ s : State,
    (∀ (i : Instr) (x : Stimulus) (xs : List Stimulus), s.stim = x :: xs →
      decode s.cfg.dataBytes (stimulusCode x s) = .ok i → step s = exec i (countCycle x { s with stim := xs })) ∧
    (s.stim = [] → step s = step { s with stim := [Config.environment s.draws], draws := s.draws + 1 })

/-- Some row is selected at every step start: a step never ends for want of a row (R84). -/
def Obligations.StepNeverFaults : Prop := ∀ (s : State) (r : Fault), step s ≠ .fault r

/-- Every environment step that the formats can write, other than an illegal RESET, is carried out: in every state, faulted
or not, the step answers a next state (R84, R205, R207, R210). That the step stands at the head of `stim` is the model's
form of R210 (log 1), and that a legal RESET may come at any point of a run, of a faulted block too, is the model's choice
(log 14) beside R220 and R203. -/
def Obligations.WritableStepsComplete : Prop :=
  ∀ (s : State) (x : Stimulus) (xs : List Stimulus),
    s.stim = x :: xs → Writable s.cfg.dataBytes x → ∃ t, step s = .next t

/-- A TICK of an unfaulted block completes, and drives the ready and valid registers as the channel FSMs say, the window of
ARREADY clamped to the ceiling (R175, R151, R206). That WREADY rises also from 0, where no run takes it, is the model's
choice (log 21). -/
def Obligations.TickDrivesTheHandshakes : Prop :=
  ∀ (inp : Inputs) (s : State), s.fault = .none →
    ∃ t, exec (.tick inp) s = .next t ∧
      t.awready = !(inp.awvalid && s.awready) ∧ t.wready = true ∧
      (s.cfg.mode ≠ .timing → t.arready = !(inp.arvalid && s.arready)) ∧
      (t.fault = .none →
        (s.cfg.mode = .timing → t.arready = (!t.drained && decide (t.inflight < min s.cfg.maxInflight s.cfg.inflightCeil))) ∧
        (s.rout.valid = true → inp.rready = false → t.rout = s.rout) ∧
        t.bvalid = !t.bq.isEmpty)

/-- What no tick changes (R161, R6): the configuration; outside TIMING mode the tracking table (R166, R176); in FUNCTIONAL mode
the backend history (R177). Of the model's own fields (log 1, log 3, log 10, log 11) it changes at most the count of free
values drawn, and that in ATOMIC mode only. -/
def Obligations.TickFrame : Prop :=
  ∀ (inp : Inputs) (s t : State), exec (.tick inp) s = .next t →
    t.cfg = s.cfg ∧
    (s.cfg.mode ≠ .timing → t.oq = s.oq ∧ t.pending = s.pending ∧ t.inflight = s.inflight ∧ t.drained = s.drained) ∧
    (s.cfg.mode = .functional → t.events = s.events) ∧
    t.stim = s.stim ∧ t.cycle = s.cycle ∧ t.hostAnswer = s.hostAnswer ∧ (s.cfg.mode ≠ .atomic → t.draws = s.draws)

/-- The tick is the opcode table's: in each slot the assembled OSV decodes to the row whose effect the slot has, up to a
fault (R84: "The table and the rules must agree"). -/
def Obligations.TickIsTableDriven : Prop :=
  ∀ (inp : Inputs) (s : State), s.fault = .none → inp.wellFormed s.cfg.dataBytes = true →
    tickByTable inp s = exec (.tick inp) s

/-! ### Reset and configuration -/

/-- Each RESET row builds the block of R220's table of reset values, from any state, faulted or not; that the environment's
steps to come and the count of free values stay is the model's choice (log 14). -/
def Obligations.ResetBuildsTheFreshBlock : Prop :=
  ∀ (p : Params) (s : State), p.legal = true →
    (∃ t, exec (.resetF p) s = .next t ∧ FreshBlock { toParams := p, mode := .functional } s t) ∧
    (∃ t, exec (.resetA p) s = .next t ∧ FreshBlock { toParams := p, mode := .atomic } s t) ∧
    (∃ t, exec (.resetT p) s = .next t ∧ FreshBlock { toParams := p, mode := .timing } s t)

/-- A configuration is refused exactly when it is outside R5's legal values; MODE `11` is always refused (R221). -/
def Obligations.IllegalConfigurationsAreRefused : Prop :=
  ∀ (p : Params) (s : State),
    (¬ LegalValues p → exec (.resetF p) s = .refused .illegalConfig ∧ exec (.resetA p) s = .refused .illegalConfig ∧
      exec (.resetT p) s = .refused .illegalConfig) ∧
    (LegalValues p → (∃ t, exec (.resetF p) s = .next t) ∧ (∃ t, exec (.resetA p) s = .next t) ∧
      (∃ t, exec (.resetT p) s = .next t)) ∧
    exec .resetReserved s = .refused .reservedMode

/-- No operation but a RESET changes the configuration, the mode with it (R6, R209). -/
def Obligations.OnlyResetChangesTheConfiguration : Prop :=
  ∀ (i : Instr) (s t : State), ¬ IsReset i → exec i s = .next t → t.cfg = s.cfg

/-- The Block Store's block size has no observable effect: every operation but a RESET does the same on blocks that differ
only in it (R52). -/
def Obligations.BlockSizeIsNotObservable : Prop :=
  ∀ (i : Instr) (n : Nat) (s : State), ¬ IsReset i →
    exec i (withBlockBytes n s) = mapNext (withBlockBytes n) (exec i s)

/-! ### Memory and operands -/

/-- The Block Store: a written byte reads back, every other byte is unchanged, the canonical form is kept, and a byte that
no write has touched reads 0 (R50, R51). -/
def Obligations.BlockStoreReadAfterWrite : Prop :=
  ∀ (m : List Host.Cell) (a : Addr) (v : Byte), Memory.wf m = true →
    readByte (writeByte m a v) a = v ∧ (∀ b, b ≠ a → readByte (writeByte m a v) b = readByte m b) ∧
    Memory.wf (writeByte m a v) = true ∧ readByte [] a = 0

/-- Two canonical Block Stores that read alike are equal: the model's form of the memory loses and adds nothing. -/
def Obligations.CanonicalMemoryIsUnique : Prop :=
  ∀ m m' : List Host.Cell, Memory.wf m = true → Memory.wf m' = true →
    (∀ a : Addr, readByte m a = readByte m' a) → m = m'

/-- Alignment clears the low `log2(DATA_BYTES)` bits of a start address and no other (R59). -/
def Obligations.AlignClearsTheLowBits : Prop :=
  ∀ (k : Nat) (a : Addr) (j : Nat), (align (2 ^ k) a).getLsbD j = (decide (k ≤ j) && a.getLsbD j)

/-- `splitRead` (R100): `len + 1` beat addresses, each a bus width on, the last one marked, and none twice. -/
def Obligations.SplitReadAddresses : Prop :=
  ∀ (db : Nat) (base : Addr) (len : Len),
    (splitRead db base len).length = len.toNat + 1 ∧
    (∀ i ≤ len.toNat, (splitRead db base len)[i]? = some (base + BitVec.ofNat 64 (i * db), decide (i = len.toNat))) ∧
    (0 < db → 256 * db < 2 ^ 64 → ((splitRead db base len).map Prod.fst).Nodup)

/-- Lanes and `pack` are little-endian within a word and inverse to each other (R56): lane `i` is bits
`8*(i mod 4)+7 .. 8*(i mod 4)` of word `i/4`, and word `w` of packed bytes has byte `4w+j` at bits `8j+7 .. 8j`. -/
def Obligations.PackIsTheInverseOfLanes : Prop :=
  (∀ (d : List DataWord) (i : Nat), lane d i = ((d.getD (i / 4) 0) >>> (8 * (i % 4))).setWidth 8) ∧
  (∀ bs : List Byte, (pack bs).length = bs.length / 4 ∧ ∀ w < bs.length / 4,
    (pack bs)[w]? = some (BitVec.ofNat 32 ((bs.getD (4 * w) 0).toNat + 2 ^ 8 * (bs.getD (4 * w + 1) 0).toNat +
      2 ^ 16 * (bs.getD (4 * w + 2) 0).toNat + 2 ^ 24 * (bs.getD (4 * w + 3) 0).toNat))) ∧
  (∀ bs : List Byte, 4 ∣ bs.length → ∀ i (h : i < bs.length), lane (pack bs) i = bs[i]) ∧
  (∀ d : List DataWord, pack ((List.range (4 * d.length)).map (lane d)) = d)

/-! ### The write path -/

/-- AW_ACCEPT queues the request with its address aligned down and drops AWREADY; the idle AW rows raise it (R102, R103).
Nothing else changes. -/
def Obligations.AwRowsResult : Prop :=
  ∀ (p : AddrReq) (s : State),
    exec (.awAccept p) s = .next
      { s with
        awq := s.awq ++
          [{ id := p.id, addr := p.addr - BitVec.ofNat 64 (p.addr.toNat % s.cfg.dataBytes), rem := p.len.toNat }]
        awready := false } ∧
    exec .awIdle s = .next { s with awready := true } ∧
    exec .awIdleNotready s = .next { s with awready := true }

/-- W_ACCEPT queues the beat; every W row leaves WREADY at 1 (R104, R105). Nothing else changes. That W_IDLE_NOTREADY writes
WREADY, and is not without effect, is the model's choice between two files of the spec (log 21). -/
def Obligations.WRowsResult : Prop :=
  ∀ (w : WBeat) (s : State),
    exec (.wAccept w) s = .next { s with wq := s.wq ++ [w], wready := true } ∧
    exec .wIdle s = .next { s with wready := true } ∧
    exec .wIdleNotready s = .next { s with wready := true }

/-- WPAIR_BEAT: the strobed bytes are written (and in A and T mode sent to the backend in lane order), the head's address
advances by the bus width, one beat fewer remains, and the beat leaves its queue (R107, R106, R57). Nothing else
changes. A bus wider than the address space, on which two lanes share a byte, has its byte effect left out. -/
def Obligations.PairBeatResult : Prop :=
  ∀ (s : State) (e : AwEntry) (es : List AwEntry) (w : WBeat) (ws : List WBeat),
    s.awq = e :: es → s.wq = w :: ws →
    ∃ m, exec .wpairBeat s = .next
        { s with
          mem := m
          events := s.events ++ laneWrites s.cfg.mode s.cfg.dataBytes e.addr w
          awq := { id := e.id, addr := e.addr + BitVec.ofNat 64 s.cfg.dataBytes, rem := e.rem - 1 } :: es
          wq := ws } ∧
      (Memory.wf s.mem = true → s.cfg.dataBytes ≤ 2 ^ 64 → StrobedWrite s.cfg.dataBytes e.addr w s.mem m)

/-- WPAIR_LAST: the strobed bytes are written (and in A and T mode sent to the backend in lane order), both heads leave, and
one response with the burst's id is queued (R108, R106, R57). Nothing else changes. -/
def Obligations.PairLastResult : Prop :=
  ∀ (s : State) (e : AwEntry) (es : List AwEntry) (w : WBeat) (ws : List WBeat),
    s.awq = e :: es → s.wq = w :: ws →
    ∃ m, exec .wpairLast s = .next
        { s with
          mem := m
          events := s.events ++ laneWrites s.cfg.mode s.cfg.dataBytes e.addr w
          bq := s.bq ++ [{ id := e.id }], awq := es, wq := ws } ∧
      (Memory.wf s.mem = true → s.cfg.dataBytes ≤ 2 ^ 64 → StrobedWrite s.cfg.dataBytes e.addr w s.mem m)

/-- A tick writes to the Block Store only the strobed lanes of one conforming data beat at its write address, and every other
byte is unchanged (R113, R115). -/
def Obligations.TickWritesOnlyStrobedBytes : Prop :=
  ∀ (inp : Inputs) (s t : State), Memory.wf s.mem = true → s.cfg.dataBytes ≤ 2 ^ 64 → exec (.tick inp) s = .next t →
    (∀ a, readByte t.mem a = readByte s.mem a) ∨
    ∃ e w, (arSlot inp (wSlot inp (awSlot inp s))).awq.head? = some e ∧
      (arSlot inp (wSlot inp (awSlot inp s))).wq.head? = some w ∧ (w.last = true ↔ e.rem = 0) ∧
      StrobedWrite s.cfg.dataBytes e.addr w s.mem t.mem

/-- WFAULT_EARLY and WFAULT_MISSING set the fault register to code 1 and code 2 and change nothing else (R109, R110, R200). -/
def Obligations.WlastFaultRowsResult : Prop :=
  ∀ s : State,
    exec .wfaultEarly s = .next { s with fault := .wlastEarly } ∧ FaultKind.wlastEarly.code = 1 ∧
    exec .wfaultMissing s = .next { s with fault := .wlastMissing } ∧ FaultKind.wlastMissing.code = 2

/-- WPAIR_IDLE_NOAW and WPAIR_IDLE_NOW change nothing (R111). -/
def Obligations.PairIdleRowsResult : Prop :=
  ∀ s : State, exec .wpairIdleNoaw s = .next s ∧ exec .wpairIdleNow s = .next s

/-- A tick whose head data beat disagrees with its burst's length ends in PAIR: the AW, W and AR slots' effects stand, the
fault kind says which way the burst disagreed, no byte is written, and the later slots do not run (R201, R109, R110). -/
def Obligations.WlastMismatchEndsTheTick : Prop :=
  ∀ (inp : Inputs) (s : State) (e : AwEntry) (es : List AwEntry) (w : WBeat) (ws : List WBeat),
    s.fault = .none →
    (arSlot inp (wSlot inp (awSlot inp s))).awq = e :: es → (arSlot inp (wSlot inp (awSlot inp s))).wq = w :: ws →
    ¬ (w.last = true ↔ e.rem = 0) →
    ∃ t, exec (.tick inp) s = .next t ∧
      t = { arSlot inp (wSlot inp (awSlot inp s)) with
            fault := if w.last then .wlastEarly else .wlastMissing } ∧
      t.mem = s.mem ∧ t.rout = s.rout ∧ t.lq = s.lq ∧ t.bq = s.bq ∧ t.bvalid = s.bvalid ∧ t.bid = s.bid ∧
      (s.cfg.mode = .timing → t.arready = s.arready ∧ t.pq = s.pq)

/-- The burst-length law (R112): the next `L + 1` data beats pair with the head write address without a fault exactly when
only the last of them has WLAST; then beat `k` is written at the head's address plus `k` bus widths, its strobed bytes and
no others (R113), and one response with the burst's id follows. A bus wider than the address space has its byte effect
left out. -/
def Obligations.BurstLengthLaw : Prop :=
  ∀ (s : State) (e : AwEntry) (es : List AwEntry) (beats rest : List WBeat),
    s.fault = .none → s.awq = e :: es → s.wq = beats ++ rest → beats.length = e.rem + 1 →
    ((pairSlot^[e.rem + 1] s).fault = .none ↔ ∀ k (h : k < beats.length), beats[k].last = true ↔ k = e.rem) ∧
    ((∀ k (h : k < beats.length), beats[k].last = true ↔ k = e.rem) →
      (∀ k ≤ e.rem,
        (pairSlot^[k] s).awq =
          { id := e.id, addr := e.addr + BitVec.ofNat 64 (k * s.cfg.dataBytes), rem := e.rem - k } :: es ∧
        (pairSlot^[k] s).wq = beats.drop k ++ rest ∧ (pairSlot^[k] s).bq = s.bq) ∧
      (Memory.wf s.mem = true → s.cfg.dataBytes ≤ 2 ^ 64 → ∀ k (h : k < beats.length),
        StrobedWrite s.cfg.dataBytes (e.addr + BitVec.ofNat 64 (k * s.cfg.dataBytes)) beats[k]
          (pairSlot^[k] s).mem (pairSlot^[k + 1] s).mem) ∧
      (pairSlot^[e.rem + 1] s).awq = es ∧ (pairSlot^[e.rem + 1] s).wq = rest ∧
      (pairSlot^[e.rem + 1] s).bq = s.bq ++ [{ id := e.id }])

/-! ### The read-address channel -/

/-- AR_ACCEPT_F: the burst's `ARLEN + 1` beats, each with the Block Store's bytes at its address, and the gap behind them
join the primary queue, and ARREADY drops (R163, R122). Nothing else changes. -/
def Obligations.FunctionalReadResult : Prop :=
  ∀ (p : AddrReq) (s : State), 4 ∣ s.cfg.dataBytes →
    ∃ beats, exec (.arAcceptF p) s = .next
        { s with
          pq := s.pq ++ beats ++ List.replicate s.cfg.rDelay ⟨false, 0, false, List.replicate s.cfg.nwords 0x55555555⟩
          arready := false } ∧
      beats.length = p.len.toNat + 1 ∧
      ∀ k ≤ p.len.toNat, ∃ d, beats[k]? = some ⟨true, p.id, decide (k = p.len.toNat), d⟩ ∧ d.length = s.cfg.nwords ∧
        ∀ j < s.cfg.dataBytes,
          lane d j = readByte s.mem (align s.cfg.dataBytes p.addr + BitVec.ofNat 64 (k * s.cfg.dataBytes + j))

/-- AR_ACCEPT_A: the backend is read once per beat, in beat order; the burst's valid beats and the gap join the primary queue
in the same step, with the Block Store's bytes where `ATOMIC_RDATA_SRC` is BLOCKSTORE and with the backend's answer to that
beat where it is BACKEND; ARREADY drops (R164, R55, R176). Nothing else of the block changes. That the answers are the
free bytes from draw `draws` on, a bus width of them for each beat, is the model's form of R55's oracle (log 3). -/
def Obligations.AtomicReadResult : Prop :=
  ∀ (p : AddrReq) (s : State), 4 ∣ s.cfg.dataBytes →
    ∃ beats, exec (.arAcceptA p) s = .next
        { s with
          pq := s.pq ++ beats ++ List.replicate s.cfg.rDelay ⟨false, 0, false, List.replicate s.cfg.nwords 0x55555555⟩
          events := s.events ++ (List.range (p.len.toNat + 1)).map fun k =>
            .read (align s.cfg.dataBytes p.addr + BitVec.ofNat 64 (k * s.cfg.dataBytes)) s.cfg.dataBytes false
          arready := false, draws := s.draws + (p.len.toNat + 1) * s.cfg.dataBytes } ∧
      beats.length = p.len.toNat + 1 ∧
      ∀ k ≤ p.len.toNat, ∃ d, beats[k]? = some ⟨true, p.id, decide (k = p.len.toNat), d⟩ ∧ d.length = s.cfg.nwords ∧
        (s.cfg.rdataSrc = .blockStore → ∀ j < s.cfg.dataBytes,
          lane d j = readByte s.mem (align s.cfg.dataBytes p.addr + BitVec.ofNat 64 (k * s.cfg.dataBytes + j))) ∧
        (s.cfg.rdataSrc = .backend → d = pack (backendBytes (s.draws + k * s.cfg.dataBytes) s.cfg.dataBytes))

/-- AR_ACCEPT_T: every beat's address joins the order queue, a placeholder joins its address's list behind those already
there, a timing read request goes to the backend, and the count rises by the number of beats (R141, R140). Nothing else
changes, ARREADY included. -/
def Obligations.TimingReadResult : Prop :=
  ∀ (p : AddrReq) (s : State), pendingWf s.pending = true →
    ∃ pend, exec (.arAcceptT p) s = .next
        { s with
          pending := pend
          oq := s.oq ++ (List.range (p.len.toNat + 1)).map fun k =>
            align s.cfg.dataBytes p.addr + BitVec.ofNat 64 (k * s.cfg.dataBytes)
          events := s.events ++ (List.range (p.len.toNat + 1)).map fun k =>
            .read (align s.cfg.dataBytes p.addr + BitVec.ofNat 64 (k * s.cfg.dataBytes)) s.cfg.dataBytes true
          inflight := s.inflight + (p.len.toNat + 1) } ∧
      ∀ a : Addr, tableGet [] pend a.toNat =
        pendingAt s a ++
          ((List.range (p.len.toNat + 1)).filter fun k =>
              align s.cfg.dataBytes p.addr + BitVec.ofNat 64 (k * s.cfg.dataBytes) = a).map fun k =>
            ⟨false, p.id, decide (k = p.len.toNat), List.replicate s.cfg.nwords 0⟩

/-- The idle AR rows raise ARREADY in F and A mode and change nothing in T mode (R165). -/
def Obligations.ArIdleRowsResult : Prop :=
  ∀ s : State,
    (s.cfg.mode ≠ .timing → exec .arIdle s = .next { s with arready := true } ∧
      exec .arIdleNotready s = .next { s with arready := true }) ∧
    (s.cfg.mode = .timing → exec .arIdle s = .next s ∧ exec .arIdleNotready s = .next s)

/-! ### The tracking table -/

/-- DRAIN_BEAT and DRAIN_LAST release the head of the order queue: its oldest placeholder moves to the primary queue (with the
gap behind it for a burst's last beat), and one beat fewer is in flight (R144, R145, R122). Nothing else changes. -/
def Obligations.DrainReleaseResult : Prop :=
  ∀ (s : State) (a : Addr) (as : List Addr) (e : ReadBeat) (es : List ReadBeat),
    s.oq = a :: as → pendingAt s a = e :: es → pendingWf s.pending = true →
    ∃ pend,
      exec .drainBeat s = .next
        { s with oq := as, pending := pend, pq := s.pq ++ [e], inflight := s.inflight - 1, drained := true } ∧
      exec .drainLast s = .next
        { s with
          oq := as, pending := pend, inflight := s.inflight - 1, drained := true
          pq := s.pq ++ e :: List.replicate s.cfg.rDelay
            ⟨false, 0, false, List.replicate s.cfg.nwords 0x55555555⟩ } ∧
      tableGet [] pend a.toNat = es ∧ ∀ b : Addr, b ≠ a → tableGet [] pend b.toNat = pendingAt s b

/-- DRAIN_WAIT and DRAIN_EMPTY only record that nothing was drained, and DRAIN_SKIP does nothing (R146, R147, R166). -/
def Obligations.DrainIdleRowsResult : Prop :=
  ∀ s : State,
    exec .drainWait s = .next { s with drained := false } ∧ exec .drainEmpty s = .next { s with drained := false } ∧
    exec .drainSkip s = .next s

/-- The ARRDY rows write ARREADY and nothing else; ARRDY_SKIP does nothing (R148, R149, R150, R166). -/
def Obligations.ArrdyRowsResult : Prop :=
  ∀ s : State,
    exec .arrdyTDrained s = .next { s with arready := false } ∧ exec .arrdyTOpen s = .next { s with arready := true } ∧
    exec .arrdyTFull s = .next { s with arready := false } ∧ exec .arrdySkip s = .next s

/-- CPL_FILL fills the oldest invalid placeholder at its address, wherever it stands, and changes nothing else (R142). -/
def Obligations.CompletionFillsTheOldest : Prop :=
  ∀ (s : State) (a : Addr) (bytes : List Byte) (older newer : List ReadBeat) (e : ReadBeat),
    s.fault = .none → pendingWf s.pending = true → pendingAt s a = older ++ e :: newer →
    (∀ b ∈ older, b.valid = true) → e.valid = false →
    ∃ pend, exec (.cplFill a bytes) s = .next { s with pending := pend } ∧
      tableGet [] pend a.toNat = older ++ ⟨true, e.id, e.last, pack bytes⟩ :: newer ∧
      ∀ b : Addr, b ≠ a → tableGet [] pend b.toNat = pendingAt s b

/-- CPL_UNEXPECTED raises fault code 3 and stores nothing; CPL_FAULTED changes nothing (R143, R202, R200). -/
def Obligations.OtherCompletionRowsResult : Prop :=
  ∀ (s : State) (a : Addr),
    (s.fault = .none → (∀ b ∈ pendingAt s a, b.valid = true) →
      exec (.cplUnexpected a) s = .next { s with fault := .unexpectedCompletion } ∧
      FaultKind.unexpectedCompletion.code = 3) ∧
    (s.fault ≠ .none → exec .cplFaulted s = .next s)

/-- Completions of different addresses may come in either order: the block ends in the same state (R142, R153). -/
def Obligations.CompletionOrderDoesNotMatter : Prop :=
  ∀ (s t u : State) (a b : Addr) (x y : List Byte), pendingWf s.pending = true → a ≠ b →
    exec (.cplFill a x) s = .next t → exec (.cplFill b y) t = .next u →
    ∃ t', exec (.cplFill b y) s = .next t' ∧ exec (.cplFill a x) t' = .next u

/-- While the head placeholder of the order queue is invalid, a tick drains nothing: every outstanding address keeps its
place, the head placeholder stays as it is, and the primary queue gains nothing (R155, R146). -/
def Obligations.HeadOfLineBlocks : Prop :=
  ∀ (inp : Inputs) (s t : State) (a : Addr) (as : List Addr) (e : ReadBeat) (es : List ReadBeat),
    s.cfg.mode = .timing → pendingWf s.pending = true → s.oq = a :: as → pendingAt s a = e :: es → e.valid = false →
    exec (.tick inp) s = .next t →
    (∃ more, t.oq = s.oq ++ more ∧ t.inflight = s.inflight + more.length) ∧
    (∃ behind, pendingAt t a = e :: behind) ∧ (∃ gone, s.pq = gone ++ t.pq) ∧ (t.fault = .none → t.drained = false)

/-- QUERY_INFLIGHT returns the count and changes nothing of the block, faulted or not; outside TIMING mode the count of a block
whose table is idle is 0 (R152, R202; the answer's place `hostAnswer` is the model's, log 11). -/
def Obligations.QueryResult : Prop :=
  ∀ s : State,
    exec .queryInflight s = .next { s with hostAnswer := some s.inflight } ∧
    (TableIdle s → s.cfg.mode ≠ .timing → exec .queryInflight s = .next { s with hostAnswer := some 0 })

/-! ### The read-data channel -/

/-- The advancing R rows move the pipeline by one beat: the head of `lq ++ [x]` is presented, where `x` is the head of the
primary queue (R_XFER_SHIFT, R_FREE_SHIFT) or a FILL sentinel (R_XFER_FILL, R_FREE_FILL) (R120, R123, R124, R125).
Nothing else changes. -/
def Obligations.AdvancingRRowsResult : Prop :=
  ∀ s : State,
    (∀ x xs, s.pq = x :: xs → ∃ q qs, s.lq ++ [x] = q :: qs ∧
      exec .rXferShift s = .next { s with pq := xs, rout := q, lq := qs } ∧
      exec .rFreeShift s = .next { s with pq := xs, rout := q, lq := qs }) ∧
    (∃ q qs, s.lq ++ [⟨false, 0, false, List.replicate s.cfg.nwords 0xAAAAAAAA⟩] = q :: qs ∧
      exec .rXferFill s = .next { s with rout := q, lq := qs } ∧
      exec .rFreeFill s = .next { s with rout := q, lq := qs })

/-- R_HOLD changes nothing, and a valid beat presented with RREADY = 0 stays presented through the whole tick, the latency
register frozen behind it (R126, R230). -/
def Obligations.HeldBeatStays : Prop :=
  (∀ s : State, exec .rHold s = .next s) ∧
  (∀ (inp : Inputs) (s t : State), s.rout.valid = true → inp.rready = false → exec (.tick inp) s = .next t →
    t.rout = s.rout ∧ t.lq = s.lq)

/-- The FIFO law (R129, R132, R123): the beats that a tick's slots push into the primary queue, those of its AR slot where PAIR
ends the tick and of its AR and DRAIN slots otherwise, stand behind the pipeline; a completed tick without a hold takes
exactly the presented beat off its front, with one FILL sentinel behind it where nothing is queued; nothing is lost,
reordered or added. -/
def Obligations.PipelineIsFifo : Prop :=
  ∀ (inp : Inputs) (s t : State), exec (.tick inp) s = .next t →
    ∃ pushed,
      (t.fault ≠ .none → (evaluateFront inp s).pq = s.pq ++ pushed) ∧
      (t.fault = .none → (drainSlot (evaluateFront inp s)).pq = s.pq ++ pushed) ∧
      ((t.fault ≠ .none ∨ (s.rout.valid = true ∧ inp.rready = false)) → pipeline t = pipeline s ++ pushed) ∧
      (t.fault = .none → (s.rout.valid = false ∨ inp.rready = true) →
        (s.pq ++ pushed ≠ [] → pipeline t = (pipeline s ++ pushed).tail) ∧
        (s.pq ++ pushed = [] → pipeline t =
          (pipeline s).tail ++ [⟨false, 0, false, List.replicate s.cfg.nwords 0xAAAAAAAA⟩]))

/-- The warm-up law (R130, R223): after reset, as long as no read is asked for, every cycle presents a sentinel with
`valid = 0`, id 0, last 0 and every word 0xAAAAAAAA. -/
def Obligations.WarmUpShowsSentinels : Prop :=
  ∀ (c : Config) (s t : State) (inps : List Inputs), (∀ inp ∈ inps, inp.arvalid = false) →
    runTicks inps (buildBlock c s) = some t →
    t.rout = ⟨false, 0, false, List.replicate c.nwords 0xAAAAAAAA⟩

/-- Functional read latency (R177, R232): with an empty primary queue and no hold, beat `k` of a burst accepted in tick `n` is
presented in cycle `n + R_LATENCY + 1 + k`, with the Block Store's bytes as they stood when tick `n` began. -/
def Obligations.FunctionalReadLatency : Prop :=
  ∀ (inp : Inputs) (s t : State) (k : Nat) (inps : List Inputs),
    s.cfg.mode = .functional → 4 ∣ s.cfg.dataBytes → LatencyDepth s → s.pq = [] →
    (s.rout.valid = false ∨ inp.rready = true) → inp.arvalid = true → s.arready = true → k ≤ inp.ar.len.toNat →
    inps.length = s.cfg.rLatency + k → (∀ i ∈ inps, i.rready = true) →
    runTicks (inp :: inps) s = some t → t.fault = .none →
    ∃ d, t.rout = ⟨true, inp.ar.id, decide (k = inp.ar.len.toNat), d⟩ ∧ d.length = s.cfg.nwords ∧
      ∀ j < s.cfg.dataBytes,
        lane d j = readByte s.mem (align s.cfg.dataBytes inp.ar.addr + BitVec.ofNat 64 (k * s.cfg.dataBytes + j))

/-- Delivery order (R153, R129, R128): over a tick, one that a fault ends too, the beats delivered and those still to deliver
are those that were to be delivered, in the same order, followed by the beats newly asked for; and completions, whatever their order,
change nothing in that order. -/
def Obligations.ReadBeatsAreDeliveredInRequestOrder : Prop :=
  (∀ (inp : Inputs) (s t : State), Inv s → exec (.tick inp) s = .next t →
    (delivered inp s).toList.map beatTag ++ readStream t = readStream s ++ requestedTags inp s) ∧
  (∀ (a : Addr) (bytes : List Byte) (s t : State), Inv s → exec (.cplFill a bytes) s = .next t →
    readStream t = readStream s)

/-! ### The write-response channel -/

/-- B_XFER takes the presented response off its queue; every B row presents the queue's head, or id 0 with BVALID 0 for an
empty queue (R167, R168, R169). Nothing else changes. -/
def Obligations.BRowsResult : Prop :=
  ∀ s : State,
    (∀ e es, s.bq = e :: es → exec .bXfer s = .next
      { s with bq := es, bvalid := !es.isEmpty, bid := (es.head?.map BEntry.id).getD 0 }) ∧
    exec .bHold s = .next { s with bvalid := !s.bq.isEmpty, bid := (s.bq.head?.map BEntry.id).getD 0 } ∧
    exec .bIdle s = .next { s with bvalid := !s.bq.isEmpty, bid := (s.bq.head?.map BEntry.id).getD 0 }

/-- The B law (R170): after every tick that ends unfaulted, BVALID and BID present the head of the response queue; a tick adds
at most one response, at the tail, and takes at most the presented one off the front. -/
def Obligations.ResponsesInOrder : Prop :=
  ∀ (inp : Inputs) (s t : State), exec (.tick inp) s = .next t → t.fault = .none →
    ResponsePresented t ∧
    ∃ added, added.length ≤ 1 ∧
      t.bq = if s.bvalid && inp.bready then (s.bq ++ added).tail else s.bq ++ added

/-! ### Faults -/

/-- TICK_FAULTED changes nothing (R162). -/
def Obligations.FaultedTickResult : Prop :=
  ∀ s : State, s.fault ≠ .none → exec .tickFaulted s = .next s

/-- The sticky fault (R162, R202, R33): in a faulted block no step but a RESET changes anything of the block. -/
def Obligations.FaultIsSticky : Prop :=
  ∀ s t : State, s.fault ≠ .none → step s = .next t → (∀ m p, nextStimulus s ≠ .reset m p) →
    t = { s with stim := t.stim, draws := t.draws, cycle := t.cycle, hostAnswer := t.hostAnswer }

/-- Where faults come from and go (R203, R204): only a RESET row clears a fault; only a tick, the two WLAST rows and
CPL_UNEXPECTED raise one, and a tick raises no other kind than the two WLAST faults. -/
def Obligations.FaultsComeAndGoByRule : Prop :=
  ∀ (i : Instr) (s t : State), exec i s = .next t →
    (s.fault ≠ .none → t.fault = .none → IsReset i) ∧
    (s.fault = .none → t.fault ≠ .none →
      (∃ inp, i = .tick inp ∧ (t.fault = .wlastEarly ∨ t.fault = .wlastMissing)) ∨
      (i = .wfaultEarly ∧ t.fault = .wlastEarly) ∨ (i = .wfaultMissing ∧ t.fault = .wlastMissing) ∨
      (∃ a, i = .cplUnexpected a ∧ t.fault = .unexpectedCompletion))

/-! ### Invariants and whole-machine rules -/

/-- The invariants hold at reset: of the model's reset state, and of every block that a legal RESET builds (R40, R220). -/
def Obligations.InvariantsHoldAtReset : Prop :=
  Inv State.reset ∧ ∀ (c : Config) (s : State), c.legal = true → Inv (buildBlock c s)

/-- Every step keeps the invariants, whatever the environment does (R40). -/
def Obligations.EveryStepKeepsTheInvariants : Prop :=
  ∀ s t : State, Inv s → step s = .next t → Inv t

/-- The window bound (R154): in every state that a run reaches from a state with the invariants, the in-flight count is at
most `W_EFF - 1 + 2^LEN_W`, and 0 for a zero window; and a tick whose burst has one beat keeps it at most `W_EFF`. `W_EFF` is
the window asked for, clamped to the ceiling (R151, R206). -/
def Obligations.WindowBoundOfRuns : Prop :=
  (∀ s t : State, Inv s → Reaches s t → t.cfg.mode = .timing →
    (1 ≤ min t.cfg.maxInflight t.cfg.inflightCeil →
      t.inflight ≤ min t.cfg.maxInflight t.cfg.inflightCeil - 1 + 2 ^ 8) ∧
    (min t.cfg.maxInflight t.cfg.inflightCeil = 0 → t.inflight = 0)) ∧
  (∀ (inp : Inputs) (s t : State), Inv s → s.cfg.mode = .timing → inp.ar.len = 0 →
    s.inflight ≤ min s.cfg.maxInflight s.cfg.inflightCeil → exec (.tick inp) s = .next t →
    t.inflight ≤ min t.cfg.maxInflight t.cfg.inflightCeil)

/-- Within a tick, reads come before writes (R224, R62, R63): a FUNCTIONAL burst, and an ATOMIC one whose `ATOMIC_RDATA_SRC` is
BLOCKSTORE, takes the Block Store's bytes from before the tick's write, and the tick's backend reads stand before its
backend writes. -/
def Obligations.ReadsComeBeforeWritesInATick : Prop :=
  ∀ (inp : Inputs) (s t : State), exec (.tick inp) s = .next t →
    (s.cfg.mode = .functional ∨ (s.cfg.mode = .atomic ∧ s.cfg.rdataSrc = .blockStore) →
      inp.arvalid = true → s.arready = true →
      (evaluateFront inp s).pq = s.pq ++ blockBeats inp.ar.id s (burstOf s.cfg.dataBytes inp.ar) ++
        List.replicate s.cfg.rDelay (gapBeat s.cfg.nwords)) ∧
    (∃ reads writes, t.events = s.events ++ reads ++ writes ∧
      (∀ e ∈ reads, ∃ a n b, e = .read a n b) ∧ (∀ e ∈ writes, ∃ a v b, e = .write a v b))

/-- TIMING-mode reads never see the Block Store (R63, R226): ticks of two blocks that differ only in their Block Store's
contents differ only in those. -/
def Obligations.TimingModeIgnoresTheBlockStore : Prop :=
  ∀ (inp : Inputs) (s t t' : State) (m : List Host.Cell), s.cfg.mode = .timing →
    exec (.tick inp) s = .next t → exec (.tick inp) { s with mem := m } = .next t' → t' = { t with mem := t'.mem }

/-! ### Delivery, and the latency of the ATOMIC mode -/

/-- Delivery (R128): a tick delivers the presented beat exactly when its R slot matches R_XFER_SHIFT or R_XFER_FILL, and then the
beat is valid and the same tick replaces it, shifting in the head of the primary queue or, where that is empty, a FILL
sentinel (R120, R124, R125), so that no beat is delivered twice; a tick that a fault ends, and a tick of a faulted block,
deliver nothing. That the R slot's bits are 0 in the OSV of such a tick is the model's reading (log 16). -/
def Obligations.DeliveryIsByTheTransferRows : Prop :=
  ∀ (inp : Inputs) (s : State),
    (∀ b, delivered inp s = some b ↔ b = s.rout ∧
      ∃ r, selectRow .r (tickOsv inp s) = some r ∧ (r.op = .rXferShift ∨ r.op = .rXferFill)) ∧
    (delivered inp s ≠ none → s.rout.valid = true ∧
      ∃ t, exec (.tick inp) s = .next t ∧
        t.rout :: t.lq = s.lq ++ [(arrdySlot (drainSlot (evaluateFront inp s))).pq.head?.getD
          ⟨false, 0, false, List.replicate s.cfg.nwords 0xAAAAAAAA⟩] ∧
        t.pq = (arrdySlot (drainSlot (evaluateFront inp s))).pq.tail) ∧
    (s.fault ≠ .none → delivered inp s = none) ∧
    (∀ t, exec (.tick inp) s = .next t → t.fault ≠ .none → delivered inp s = none)

/-- ATOMIC read latency (R232): with an empty primary queue and no hold, beat `k` of a burst accepted in tick `n` is presented in
cycle `n + R_LATENCY + 1 + k`, with the Block Store's bytes as they stood when tick `n` began where `ATOMIC_RDATA_SRC` is
BLOCKSTORE, and with the backend's answer where it is BACKEND (the free bytes of log 3). -/
def Obligations.AtomicReadLatency : Prop :=
  ∀ (inp : Inputs) (s t : State) (k : Nat) (inps : List Inputs),
    s.cfg.mode = .atomic → 4 ∣ s.cfg.dataBytes → LatencyDepth s → s.pq = [] →
    (s.rout.valid = false ∨ inp.rready = true) → inp.arvalid = true → s.arready = true → k ≤ inp.ar.len.toNat →
    inps.length = s.cfg.rLatency + k → (∀ i ∈ inps, i.rready = true) →
    runTicks (inp :: inps) s = some t → t.fault = .none →
    ∃ d, t.rout = ⟨true, inp.ar.id, decide (k = inp.ar.len.toNat), d⟩ ∧ d.length = s.cfg.nwords ∧
      (s.cfg.rdataSrc = .blockStore → ∀ j < s.cfg.dataBytes,
        lane d j = readByte s.mem (align s.cfg.dataBytes inp.ar.addr + BitVec.ofNat 64 (k * s.cfg.dataBytes + j))) ∧
      (s.cfg.rdataSrc = .backend → d = pack (backendBytes (s.draws + k * s.cfg.dataBytes) s.cfg.dataBytes))
end

