-- ==== Sys2Proof/Laws/State.lean ====
section
/-!
SUPPORT. The fields of a state after each record update that the slots make: one lemma per field per update.
-/

namespace Sys2Proof.Machine

section captureAw

variable (p : AddrReq) (s : State)

@[simp] theorem captureAw_cfg : (captureAw p s).cfg = s.cfg := rfl
@[simp] theorem captureAw_awready : (captureAw p s).awready = false := rfl
@[simp] theorem captureAw_wready : (captureAw p s).wready = s.wready := rfl
@[simp] theorem captureAw_bvalid : (captureAw p s).bvalid = s.bvalid := rfl
@[simp] theorem captureAw_bid : (captureAw p s).bid = s.bid := rfl
@[simp] theorem captureAw_arready : (captureAw p s).arready = s.arready := rfl
@[simp] theorem captureAw_awq : (captureAw p s).awq = s.awq ++ [{ id := p.id, addr := align s.cfg.dataBytes p.addr, rem := p.len.toNat }] := rfl
@[simp] theorem captureAw_wq : (captureAw p s).wq = s.wq := rfl
@[simp] theorem captureAw_bq : (captureAw p s).bq = s.bq := rfl
@[simp] theorem captureAw_pq : (captureAw p s).pq = s.pq := rfl
@[simp] theorem captureAw_lq : (captureAw p s).lq = s.lq := rfl
@[simp] theorem captureAw_rout : (captureAw p s).rout = s.rout := rfl
@[simp] theorem captureAw_pending : (captureAw p s).pending = s.pending := rfl
@[simp] theorem captureAw_oq : (captureAw p s).oq = s.oq := rfl
@[simp] theorem captureAw_inflight : (captureAw p s).inflight = s.inflight := rfl
@[simp] theorem captureAw_mem : (captureAw p s).mem = s.mem := rfl
@[simp] theorem captureAw_fault : (captureAw p s).fault = s.fault := rfl
@[simp] theorem captureAw_events : (captureAw p s).events = s.events := rfl
@[simp] theorem captureAw_drained : (captureAw p s).drained = s.drained := rfl
@[simp] theorem captureAw_cycle : (captureAw p s).cycle = s.cycle := rfl
@[simp] theorem captureAw_hostAnswer : (captureAw p s).hostAnswer = s.hostAnswer := rfl
@[simp] theorem captureAw_stim : (captureAw p s).stim = s.stim := rfl
@[simp] theorem captureAw_draws : (captureAw p s).draws = s.draws := rfl

end captureAw

section restAw

variable (s : State)

@[simp] theorem restAw_cfg : (restAw s).cfg = s.cfg := rfl
@[simp] theorem restAw_awready : (restAw s).awready = true := rfl
@[simp] theorem restAw_wready : (restAw s).wready = s.wready := rfl
@[simp] theorem restAw_bvalid : (restAw s).bvalid = s.bvalid := rfl
@[simp] theorem restAw_bid : (restAw s).bid = s.bid := rfl
@[simp] theorem restAw_arready : (restAw s).arready = s.arready := rfl
@[simp] theorem restAw_awq : (restAw s).awq = s.awq := rfl
@[simp] theorem restAw_wq : (restAw s).wq = s.wq := rfl
@[simp] theorem restAw_bq : (restAw s).bq = s.bq := rfl
@[simp] theorem restAw_pq : (restAw s).pq = s.pq := rfl
@[simp] theorem restAw_lq : (restAw s).lq = s.lq := rfl
@[simp] theorem restAw_rout : (restAw s).rout = s.rout := rfl
@[simp] theorem restAw_pending : (restAw s).pending = s.pending := rfl
@[simp] theorem restAw_oq : (restAw s).oq = s.oq := rfl
@[simp] theorem restAw_inflight : (restAw s).inflight = s.inflight := rfl
@[simp] theorem restAw_mem : (restAw s).mem = s.mem := rfl
@[simp] theorem restAw_fault : (restAw s).fault = s.fault := rfl
@[simp] theorem restAw_events : (restAw s).events = s.events := rfl
@[simp] theorem restAw_drained : (restAw s).drained = s.drained := rfl
@[simp] theorem restAw_cycle : (restAw s).cycle = s.cycle := rfl
@[simp] theorem restAw_hostAnswer : (restAw s).hostAnswer = s.hostAnswer := rfl
@[simp] theorem restAw_stim : (restAw s).stim = s.stim := rfl
@[simp] theorem restAw_draws : (restAw s).draws = s.draws := rfl

end restAw

section captureW

variable (w : WBeat) (s : State)

@[simp] theorem captureW_cfg : (captureW w s).cfg = s.cfg := rfl
@[simp] theorem captureW_awready : (captureW w s).awready = s.awready := rfl
@[simp] theorem captureW_wready : (captureW w s).wready = true := rfl
@[simp] theorem captureW_bvalid : (captureW w s).bvalid = s.bvalid := rfl
@[simp] theorem captureW_bid : (captureW w s).bid = s.bid := rfl
@[simp] theorem captureW_arready : (captureW w s).arready = s.arready := rfl
@[simp] theorem captureW_awq : (captureW w s).awq = s.awq := rfl
@[simp] theorem captureW_wq : (captureW w s).wq = s.wq ++ [w] := rfl
@[simp] theorem captureW_bq : (captureW w s).bq = s.bq := rfl
@[simp] theorem captureW_pq : (captureW w s).pq = s.pq := rfl
@[simp] theorem captureW_lq : (captureW w s).lq = s.lq := rfl
@[simp] theorem captureW_rout : (captureW w s).rout = s.rout := rfl
@[simp] theorem captureW_pending : (captureW w s).pending = s.pending := rfl
@[simp] theorem captureW_oq : (captureW w s).oq = s.oq := rfl
@[simp] theorem captureW_inflight : (captureW w s).inflight = s.inflight := rfl
@[simp] theorem captureW_mem : (captureW w s).mem = s.mem := rfl
@[simp] theorem captureW_fault : (captureW w s).fault = s.fault := rfl
@[simp] theorem captureW_events : (captureW w s).events = s.events := rfl
@[simp] theorem captureW_drained : (captureW w s).drained = s.drained := rfl
@[simp] theorem captureW_cycle : (captureW w s).cycle = s.cycle := rfl
@[simp] theorem captureW_hostAnswer : (captureW w s).hostAnswer = s.hostAnswer := rfl
@[simp] theorem captureW_stim : (captureW w s).stim = s.stim := rfl
@[simp] theorem captureW_draws : (captureW w s).draws = s.draws := rfl

end captureW

section restW

variable (s : State)

@[simp] theorem restW_cfg : (restW s).cfg = s.cfg := rfl
@[simp] theorem restW_awready : (restW s).awready = s.awready := rfl
@[simp] theorem restW_wready : (restW s).wready = true := rfl
@[simp] theorem restW_bvalid : (restW s).bvalid = s.bvalid := rfl
@[simp] theorem restW_bid : (restW s).bid = s.bid := rfl
@[simp] theorem restW_arready : (restW s).arready = s.arready := rfl
@[simp] theorem restW_awq : (restW s).awq = s.awq := rfl
@[simp] theorem restW_wq : (restW s).wq = s.wq := rfl
@[simp] theorem restW_bq : (restW s).bq = s.bq := rfl
@[simp] theorem restW_pq : (restW s).pq = s.pq := rfl
@[simp] theorem restW_lq : (restW s).lq = s.lq := rfl
@[simp] theorem restW_rout : (restW s).rout = s.rout := rfl
@[simp] theorem restW_pending : (restW s).pending = s.pending := rfl
@[simp] theorem restW_oq : (restW s).oq = s.oq := rfl
@[simp] theorem restW_inflight : (restW s).inflight = s.inflight := rfl
@[simp] theorem restW_mem : (restW s).mem = s.mem := rfl
@[simp] theorem restW_fault : (restW s).fault = s.fault := rfl
@[simp] theorem restW_events : (restW s).events = s.events := rfl
@[simp] theorem restW_drained : (restW s).drained = s.drained := rfl
@[simp] theorem restW_cycle : (restW s).cycle = s.cycle := rfl
@[simp] theorem restW_hostAnswer : (restW s).hostAnswer = s.hostAnswer := rfl
@[simp] theorem restW_stim : (restW s).stim = s.stim := rfl
@[simp] theorem restW_draws : (restW s).draws = s.draws := rfl

end restW

section pushGap

variable (s : State)

@[simp] theorem pushGap_cfg : (pushGap s).cfg = s.cfg := rfl
@[simp] theorem pushGap_awready : (pushGap s).awready = s.awready := rfl
@[simp] theorem pushGap_wready : (pushGap s).wready = s.wready := rfl
@[simp] theorem pushGap_bvalid : (pushGap s).bvalid = s.bvalid := rfl
@[simp] theorem pushGap_bid : (pushGap s).bid = s.bid := rfl
@[simp] theorem pushGap_arready : (pushGap s).arready = s.arready := rfl
@[simp] theorem pushGap_awq : (pushGap s).awq = s.awq := rfl
@[simp] theorem pushGap_wq : (pushGap s).wq = s.wq := rfl
@[simp] theorem pushGap_bq : (pushGap s).bq = s.bq := rfl
@[simp] theorem pushGap_pq : (pushGap s).pq = s.pq ++ List.replicate s.cfg.rDelay (gapBeat s.cfg.nwords) := rfl
@[simp] theorem pushGap_lq : (pushGap s).lq = s.lq := rfl
@[simp] theorem pushGap_rout : (pushGap s).rout = s.rout := rfl
@[simp] theorem pushGap_pending : (pushGap s).pending = s.pending := rfl
@[simp] theorem pushGap_oq : (pushGap s).oq = s.oq := rfl
@[simp] theorem pushGap_inflight : (pushGap s).inflight = s.inflight := rfl
@[simp] theorem pushGap_mem : (pushGap s).mem = s.mem := rfl
@[simp] theorem pushGap_fault : (pushGap s).fault = s.fault := rfl
@[simp] theorem pushGap_events : (pushGap s).events = s.events := rfl
@[simp] theorem pushGap_drained : (pushGap s).drained = s.drained := rfl
@[simp] theorem pushGap_cycle : (pushGap s).cycle = s.cycle := rfl
@[simp] theorem pushGap_hostAnswer : (pushGap s).hostAnswer = s.hostAnswer := rfl
@[simp] theorem pushGap_stim : (pushGap s).stim = s.stim := rfl
@[simp] theorem pushGap_draws : (pushGap s).draws = s.draws := rfl

end pushGap

section raiseFault

variable (k : FaultKind) (s : State)

@[simp] theorem raiseFault_cfg : (raiseFault k s).cfg = s.cfg := rfl
@[simp] theorem raiseFault_awready : (raiseFault k s).awready = s.awready := rfl
@[simp] theorem raiseFault_wready : (raiseFault k s).wready = s.wready := rfl
@[simp] theorem raiseFault_bvalid : (raiseFault k s).bvalid = s.bvalid := rfl
@[simp] theorem raiseFault_bid : (raiseFault k s).bid = s.bid := rfl
@[simp] theorem raiseFault_arready : (raiseFault k s).arready = s.arready := rfl
@[simp] theorem raiseFault_awq : (raiseFault k s).awq = s.awq := rfl
@[simp] theorem raiseFault_wq : (raiseFault k s).wq = s.wq := rfl
@[simp] theorem raiseFault_bq : (raiseFault k s).bq = s.bq := rfl
@[simp] theorem raiseFault_pq : (raiseFault k s).pq = s.pq := rfl
@[simp] theorem raiseFault_lq : (raiseFault k s).lq = s.lq := rfl
@[simp] theorem raiseFault_rout : (raiseFault k s).rout = s.rout := rfl
@[simp] theorem raiseFault_pending : (raiseFault k s).pending = s.pending := rfl
@[simp] theorem raiseFault_oq : (raiseFault k s).oq = s.oq := rfl
@[simp] theorem raiseFault_inflight : (raiseFault k s).inflight = s.inflight := rfl
@[simp] theorem raiseFault_mem : (raiseFault k s).mem = s.mem := rfl
@[simp] theorem raiseFault_fault : (raiseFault k s).fault = k := rfl
@[simp] theorem raiseFault_events : (raiseFault k s).events = s.events := rfl
@[simp] theorem raiseFault_drained : (raiseFault k s).drained = s.drained := rfl
@[simp] theorem raiseFault_cycle : (raiseFault k s).cycle = s.cycle := rfl
@[simp] theorem raiseFault_hostAnswer : (raiseFault k s).hostAnswer = s.hostAnswer := rfl
@[simp] theorem raiseFault_stim : (raiseFault k s).stim = s.stim := rfl
@[simp] theorem raiseFault_draws : (raiseFault k s).draws = s.draws := rfl

end raiseFault

section driveArready

variable (v : Bool) (s : State)

@[simp] theorem driveArready_cfg : (driveArready v s).cfg = s.cfg := rfl
@[simp] theorem driveArready_awready : (driveArready v s).awready = s.awready := rfl
@[simp] theorem driveArready_wready : (driveArready v s).wready = s.wready := rfl
@[simp] theorem driveArready_bvalid : (driveArready v s).bvalid = s.bvalid := rfl
@[simp] theorem driveArready_bid : (driveArready v s).bid = s.bid := rfl
@[simp] theorem driveArready_arready : (driveArready v s).arready = v := rfl
@[simp] theorem driveArready_awq : (driveArready v s).awq = s.awq := rfl
@[simp] theorem driveArready_wq : (driveArready v s).wq = s.wq := rfl
@[simp] theorem driveArready_bq : (driveArready v s).bq = s.bq := rfl
@[simp] theorem driveArready_pq : (driveArready v s).pq = s.pq := rfl
@[simp] theorem driveArready_lq : (driveArready v s).lq = s.lq := rfl
@[simp] theorem driveArready_rout : (driveArready v s).rout = s.rout := rfl
@[simp] theorem driveArready_pending : (driveArready v s).pending = s.pending := rfl
@[simp] theorem driveArready_oq : (driveArready v s).oq = s.oq := rfl
@[simp] theorem driveArready_inflight : (driveArready v s).inflight = s.inflight := rfl
@[simp] theorem driveArready_mem : (driveArready v s).mem = s.mem := rfl
@[simp] theorem driveArready_fault : (driveArready v s).fault = s.fault := rfl
@[simp] theorem driveArready_events : (driveArready v s).events = s.events := rfl
@[simp] theorem driveArready_drained : (driveArready v s).drained = s.drained := rfl
@[simp] theorem driveArready_cycle : (driveArready v s).cycle = s.cycle := rfl
@[simp] theorem driveArready_hostAnswer : (driveArready v s).hostAnswer = s.hostAnswer := rfl
@[simp] theorem driveArready_stim : (driveArready v s).stim = s.stim := rfl
@[simp] theorem driveArready_draws : (driveArready v s).draws = s.draws := rfl

end driveArready

section noDrain

variable (s : State)

@[simp] theorem noDrain_cfg : (noDrain s).cfg = s.cfg := rfl
@[simp] theorem noDrain_awready : (noDrain s).awready = s.awready := rfl
@[simp] theorem noDrain_wready : (noDrain s).wready = s.wready := rfl
@[simp] theorem noDrain_bvalid : (noDrain s).bvalid = s.bvalid := rfl
@[simp] theorem noDrain_bid : (noDrain s).bid = s.bid := rfl
@[simp] theorem noDrain_arready : (noDrain s).arready = s.arready := rfl
@[simp] theorem noDrain_awq : (noDrain s).awq = s.awq := rfl
@[simp] theorem noDrain_wq : (noDrain s).wq = s.wq := rfl
@[simp] theorem noDrain_bq : (noDrain s).bq = s.bq := rfl
@[simp] theorem noDrain_pq : (noDrain s).pq = s.pq := rfl
@[simp] theorem noDrain_lq : (noDrain s).lq = s.lq := rfl
@[simp] theorem noDrain_rout : (noDrain s).rout = s.rout := rfl
@[simp] theorem noDrain_pending : (noDrain s).pending = s.pending := rfl
@[simp] theorem noDrain_oq : (noDrain s).oq = s.oq := rfl
@[simp] theorem noDrain_inflight : (noDrain s).inflight = s.inflight := rfl
@[simp] theorem noDrain_mem : (noDrain s).mem = s.mem := rfl
@[simp] theorem noDrain_fault : (noDrain s).fault = s.fault := rfl
@[simp] theorem noDrain_events : (noDrain s).events = s.events := rfl
@[simp] theorem noDrain_drained : (noDrain s).drained = false := rfl
@[simp] theorem noDrain_cycle : (noDrain s).cycle = s.cycle := rfl
@[simp] theorem noDrain_hostAnswer : (noDrain s).hostAnswer = s.hostAnswer := rfl
@[simp] theorem noDrain_stim : (noDrain s).stim = s.stim := rfl
@[simp] theorem noDrain_draws : (noDrain s).draws = s.draws := rfl

end noDrain

section releaseHead

variable (a : Addr) (as : List Addr) (e : ReadBeat) (es : List ReadBeat) (s : State)

@[simp] theorem releaseHead_cfg : (releaseHead a as e es s).cfg = s.cfg := rfl
@[simp] theorem releaseHead_awready : (releaseHead a as e es s).awready = s.awready := rfl
@[simp] theorem releaseHead_wready : (releaseHead a as e es s).wready = s.wready := rfl
@[simp] theorem releaseHead_bvalid : (releaseHead a as e es s).bvalid = s.bvalid := rfl
@[simp] theorem releaseHead_bid : (releaseHead a as e es s).bid = s.bid := rfl
@[simp] theorem releaseHead_arready : (releaseHead a as e es s).arready = s.arready := rfl
@[simp] theorem releaseHead_awq : (releaseHead a as e es s).awq = s.awq := rfl
@[simp] theorem releaseHead_wq : (releaseHead a as e es s).wq = s.wq := rfl
@[simp] theorem releaseHead_bq : (releaseHead a as e es s).bq = s.bq := rfl
@[simp] theorem releaseHead_pq : (releaseHead a as e es s).pq = s.pq ++ [e] := rfl
@[simp] theorem releaseHead_lq : (releaseHead a as e es s).lq = s.lq := rfl
@[simp] theorem releaseHead_rout : (releaseHead a as e es s).rout = s.rout := rfl
@[simp] theorem releaseHead_pending : (releaseHead a as e es s).pending = setPending s a es := rfl
@[simp] theorem releaseHead_oq : (releaseHead a as e es s).oq = as := rfl
@[simp] theorem releaseHead_inflight : (releaseHead a as e es s).inflight = s.inflight - 1 := rfl
@[simp] theorem releaseHead_mem : (releaseHead a as e es s).mem = s.mem := rfl
@[simp] theorem releaseHead_fault : (releaseHead a as e es s).fault = s.fault := rfl
@[simp] theorem releaseHead_events : (releaseHead a as e es s).events = s.events := rfl
@[simp] theorem releaseHead_drained : (releaseHead a as e es s).drained = true := rfl
@[simp] theorem releaseHead_cycle : (releaseHead a as e es s).cycle = s.cycle := rfl
@[simp] theorem releaseHead_hostAnswer : (releaseHead a as e es s).hostAnswer = s.hostAnswer := rfl
@[simp] theorem releaseHead_stim : (releaseHead a as e es s).stim = s.stim := rfl
@[simp] theorem releaseHead_draws : (releaseHead a as e es s).draws = s.draws := rfl

end releaseHead

section fillPending

variable (a : Addr) (bytes : List Byte) (s : State)

@[simp] theorem fillPending_cfg : (fillPending a bytes s).cfg = s.cfg := rfl
@[simp] theorem fillPending_awready : (fillPending a bytes s).awready = s.awready := rfl
@[simp] theorem fillPending_wready : (fillPending a bytes s).wready = s.wready := rfl
@[simp] theorem fillPending_bvalid : (fillPending a bytes s).bvalid = s.bvalid := rfl
@[simp] theorem fillPending_bid : (fillPending a bytes s).bid = s.bid := rfl
@[simp] theorem fillPending_arready : (fillPending a bytes s).arready = s.arready := rfl
@[simp] theorem fillPending_awq : (fillPending a bytes s).awq = s.awq := rfl
@[simp] theorem fillPending_wq : (fillPending a bytes s).wq = s.wq := rfl
@[simp] theorem fillPending_bq : (fillPending a bytes s).bq = s.bq := rfl
@[simp] theorem fillPending_pq : (fillPending a bytes s).pq = s.pq := rfl
@[simp] theorem fillPending_lq : (fillPending a bytes s).lq = s.lq := rfl
@[simp] theorem fillPending_rout : (fillPending a bytes s).rout = s.rout := rfl
@[simp] theorem fillPending_pending : (fillPending a bytes s).pending = setPending s a (fillOldest (pack bytes) (pendingAt s a)) := rfl
@[simp] theorem fillPending_oq : (fillPending a bytes s).oq = s.oq := rfl
@[simp] theorem fillPending_inflight : (fillPending a bytes s).inflight = s.inflight := rfl
@[simp] theorem fillPending_mem : (fillPending a bytes s).mem = s.mem := rfl
@[simp] theorem fillPending_fault : (fillPending a bytes s).fault = s.fault := rfl
@[simp] theorem fillPending_events : (fillPending a bytes s).events = s.events := rfl
@[simp] theorem fillPending_drained : (fillPending a bytes s).drained = s.drained := rfl
@[simp] theorem fillPending_cycle : (fillPending a bytes s).cycle = s.cycle := rfl
@[simp] theorem fillPending_hostAnswer : (fillPending a bytes s).hostAnswer = s.hostAnswer := rfl
@[simp] theorem fillPending_stim : (fillPending a bytes s).stim = s.stim := rfl
@[simp] theorem fillPending_draws : (fillPending a bytes s).draws = s.draws := rfl

end fillPending

section updateB

variable (s : State)

@[simp] theorem updateB_cfg : (updateB s).cfg = s.cfg := rfl
@[simp] theorem updateB_awready : (updateB s).awready = s.awready := rfl
@[simp] theorem updateB_wready : (updateB s).wready = s.wready := rfl
@[simp] theorem updateB_bvalid : (updateB s).bvalid = !s.bq.isEmpty := rfl
@[simp] theorem updateB_bid : (updateB s).bid = headId s.bq := rfl
@[simp] theorem updateB_arready : (updateB s).arready = s.arready := rfl
@[simp] theorem updateB_awq : (updateB s).awq = s.awq := rfl
@[simp] theorem updateB_wq : (updateB s).wq = s.wq := rfl
@[simp] theorem updateB_bq : (updateB s).bq = s.bq := rfl
@[simp] theorem updateB_pq : (updateB s).pq = s.pq := rfl
@[simp] theorem updateB_lq : (updateB s).lq = s.lq := rfl
@[simp] theorem updateB_rout : (updateB s).rout = s.rout := rfl
@[simp] theorem updateB_pending : (updateB s).pending = s.pending := rfl
@[simp] theorem updateB_oq : (updateB s).oq = s.oq := rfl
@[simp] theorem updateB_inflight : (updateB s).inflight = s.inflight := rfl
@[simp] theorem updateB_mem : (updateB s).mem = s.mem := rfl
@[simp] theorem updateB_fault : (updateB s).fault = s.fault := rfl
@[simp] theorem updateB_events : (updateB s).events = s.events := rfl
@[simp] theorem updateB_drained : (updateB s).drained = s.drained := rfl
@[simp] theorem updateB_cycle : (updateB s).cycle = s.cycle := rfl
@[simp] theorem updateB_hostAnswer : (updateB s).hostAnswer = s.hostAnswer := rfl
@[simp] theorem updateB_stim : (updateB s).stim = s.stim := rfl
@[simp] theorem updateB_draws : (updateB s).draws = s.draws := rfl

end updateB

section popB

variable (s : State)

@[simp] theorem popB_cfg : (popB s).cfg = s.cfg := rfl
@[simp] theorem popB_awready : (popB s).awready = s.awready := rfl
@[simp] theorem popB_wready : (popB s).wready = s.wready := rfl
@[simp] theorem popB_bvalid : (popB s).bvalid = !s.bq.tail.isEmpty := rfl
@[simp] theorem popB_bid : (popB s).bid = headId s.bq.tail := rfl
@[simp] theorem popB_arready : (popB s).arready = s.arready := rfl
@[simp] theorem popB_awq : (popB s).awq = s.awq := rfl
@[simp] theorem popB_wq : (popB s).wq = s.wq := rfl
@[simp] theorem popB_bq : (popB s).bq = s.bq.tail := rfl
@[simp] theorem popB_pq : (popB s).pq = s.pq := rfl
@[simp] theorem popB_lq : (popB s).lq = s.lq := rfl
@[simp] theorem popB_rout : (popB s).rout = s.rout := rfl
@[simp] theorem popB_pending : (popB s).pending = s.pending := rfl
@[simp] theorem popB_oq : (popB s).oq = s.oq := rfl
@[simp] theorem popB_inflight : (popB s).inflight = s.inflight := rfl
@[simp] theorem popB_mem : (popB s).mem = s.mem := rfl
@[simp] theorem popB_fault : (popB s).fault = s.fault := rfl
@[simp] theorem popB_events : (popB s).events = s.events := rfl
@[simp] theorem popB_drained : (popB s).drained = s.drained := rfl
@[simp] theorem popB_cycle : (popB s).cycle = s.cycle := rfl
@[simp] theorem popB_hostAnswer : (popB s).hostAnswer = s.hostAnswer := rfl
@[simp] theorem popB_stim : (popB s).stim = s.stim := rfl
@[simp] theorem popB_draws : (popB s).draws = s.draws := rfl

end popB

section registerBeat

variable (id : Id) (b : Addr × Bool) (s : State)

@[simp] theorem registerBeat_cfg : (registerBeat id b s).cfg = s.cfg := rfl
@[simp] theorem registerBeat_awready : (registerBeat id b s).awready = s.awready := rfl
@[simp] theorem registerBeat_wready : (registerBeat id b s).wready = s.wready := rfl
@[simp] theorem registerBeat_bvalid : (registerBeat id b s).bvalid = s.bvalid := rfl
@[simp] theorem registerBeat_bid : (registerBeat id b s).bid = s.bid := rfl
@[simp] theorem registerBeat_arready : (registerBeat id b s).arready = s.arready := rfl
@[simp] theorem registerBeat_awq : (registerBeat id b s).awq = s.awq := rfl
@[simp] theorem registerBeat_wq : (registerBeat id b s).wq = s.wq := rfl
@[simp] theorem registerBeat_bq : (registerBeat id b s).bq = s.bq := rfl
@[simp] theorem registerBeat_pq : (registerBeat id b s).pq = s.pq := rfl
@[simp] theorem registerBeat_lq : (registerBeat id b s).lq = s.lq := rfl
@[simp] theorem registerBeat_rout : (registerBeat id b s).rout = s.rout := rfl
@[simp] theorem registerBeat_pending : (registerBeat id b s).pending = setPending s b.1 (pendingAt s b.1 ++ [placeholder s.cfg.nwords id b.2]) := rfl
@[simp] theorem registerBeat_oq : (registerBeat id b s).oq = s.oq ++ [b.1] := rfl
@[simp] theorem registerBeat_inflight : (registerBeat id b s).inflight = s.inflight + 1 := rfl
@[simp] theorem registerBeat_mem : (registerBeat id b s).mem = s.mem := rfl
@[simp] theorem registerBeat_fault : (registerBeat id b s).fault = s.fault := rfl
@[simp] theorem registerBeat_events : (registerBeat id b s).events = s.events ++ [.read b.1 s.cfg.dataBytes true] := rfl
@[simp] theorem registerBeat_drained : (registerBeat id b s).drained = s.drained := rfl
@[simp] theorem registerBeat_cycle : (registerBeat id b s).cycle = s.cycle := rfl
@[simp] theorem registerBeat_hostAnswer : (registerBeat id b s).hostAnswer = s.hostAnswer := rfl
@[simp] theorem registerBeat_stim : (registerBeat id b s).stim = s.stim := rfl
@[simp] theorem registerBeat_draws : (registerBeat id b s).draws = s.draws := rfl

end registerBeat

section writeLane

variable (a : Addr) (v : Byte) (s : State)

@[simp] theorem writeLane_cfg : (writeLane a v s).cfg = s.cfg := by
  unfold writeLane; split <;> rfl
@[simp] theorem writeLane_awready : (writeLane a v s).awready = s.awready := by
  unfold writeLane; split <;> rfl
@[simp] theorem writeLane_wready : (writeLane a v s).wready = s.wready := by
  unfold writeLane; split <;> rfl
@[simp] theorem writeLane_bvalid : (writeLane a v s).bvalid = s.bvalid := by
  unfold writeLane; split <;> rfl
@[simp] theorem writeLane_bid : (writeLane a v s).bid = s.bid := by
  unfold writeLane; split <;> rfl
@[simp] theorem writeLane_arready : (writeLane a v s).arready = s.arready := by
  unfold writeLane; split <;> rfl
@[simp] theorem writeLane_awq : (writeLane a v s).awq = s.awq := by
  unfold writeLane; split <;> rfl
@[simp] theorem writeLane_wq : (writeLane a v s).wq = s.wq := by
  unfold writeLane; split <;> rfl
@[simp] theorem writeLane_bq : (writeLane a v s).bq = s.bq := by
  unfold writeLane; split <;> rfl
@[simp] theorem writeLane_pq : (writeLane a v s).pq = s.pq := by
  unfold writeLane; split <;> rfl
@[simp] theorem writeLane_lq : (writeLane a v s).lq = s.lq := by
  unfold writeLane; split <;> rfl
@[simp] theorem writeLane_rout : (writeLane a v s).rout = s.rout := by
  unfold writeLane; split <;> rfl
@[simp] theorem writeLane_pending : (writeLane a v s).pending = s.pending := by
  unfold writeLane; split <;> rfl
@[simp] theorem writeLane_oq : (writeLane a v s).oq = s.oq := by
  unfold writeLane; split <;> rfl
@[simp] theorem writeLane_inflight : (writeLane a v s).inflight = s.inflight := by
  unfold writeLane; split <;> rfl
@[simp] theorem writeLane_fault : (writeLane a v s).fault = s.fault := by
  unfold writeLane; split <;> rfl
@[simp] theorem writeLane_drained : (writeLane a v s).drained = s.drained := by
  unfold writeLane; split <;> rfl
@[simp] theorem writeLane_cycle : (writeLane a v s).cycle = s.cycle := by
  unfold writeLane; split <;> rfl
@[simp] theorem writeLane_hostAnswer : (writeLane a v s).hostAnswer = s.hostAnswer := by
  unfold writeLane; split <;> rfl
@[simp] theorem writeLane_stim : (writeLane a v s).stim = s.stim := by
  unfold writeLane; split <;> rfl
@[simp] theorem writeLane_draws : (writeLane a v s).draws = s.draws := by
  unfold writeLane; split <;> rfl

end writeLane

section shift

variable (x : ReadBeat) (s : State)

@[simp] theorem shift_cfg : (shift x s).cfg = s.cfg := by
  unfold shift; split <;> rfl
@[simp] theorem shift_awready : (shift x s).awready = s.awready := by
  unfold shift; split <;> rfl
@[simp] theorem shift_wready : (shift x s).wready = s.wready := by
  unfold shift; split <;> rfl
@[simp] theorem shift_bvalid : (shift x s).bvalid = s.bvalid := by
  unfold shift; split <;> rfl
@[simp] theorem shift_bid : (shift x s).bid = s.bid := by
  unfold shift; split <;> rfl
@[simp] theorem shift_arready : (shift x s).arready = s.arready := by
  unfold shift; split <;> rfl
@[simp] theorem shift_awq : (shift x s).awq = s.awq := by
  unfold shift; split <;> rfl
@[simp] theorem shift_wq : (shift x s).wq = s.wq := by
  unfold shift; split <;> rfl
@[simp] theorem shift_bq : (shift x s).bq = s.bq := by
  unfold shift; split <;> rfl
@[simp] theorem shift_pq : (shift x s).pq = s.pq := by
  unfold shift; split <;> rfl
@[simp] theorem shift_pending : (shift x s).pending = s.pending := by
  unfold shift; split <;> rfl
@[simp] theorem shift_oq : (shift x s).oq = s.oq := by
  unfold shift; split <;> rfl
@[simp] theorem shift_inflight : (shift x s).inflight = s.inflight := by
  unfold shift; split <;> rfl
@[simp] theorem shift_mem : (shift x s).mem = s.mem := by
  unfold shift; split <;> rfl
@[simp] theorem shift_fault : (shift x s).fault = s.fault := by
  unfold shift; split <;> rfl
@[simp] theorem shift_events : (shift x s).events = s.events := by
  unfold shift; split <;> rfl
@[simp] theorem shift_drained : (shift x s).drained = s.drained := by
  unfold shift; split <;> rfl
@[simp] theorem shift_cycle : (shift x s).cycle = s.cycle := by
  unfold shift; split <;> rfl
@[simp] theorem shift_hostAnswer : (shift x s).hostAnswer = s.hostAnswer := by
  unfold shift; split <;> rfl
@[simp] theorem shift_stim : (shift x s).stim = s.stim := by
  unfold shift; split <;> rfl
@[simp] theorem shift_draws : (shift x s).draws = s.draws := by
  unfold shift; split <;> rfl

end shift

section restAr

variable (s : State)

@[simp] theorem restAr_cfg : (restAr s).cfg = s.cfg := by
  unfold restAr; split <;> rfl
@[simp] theorem restAr_awready : (restAr s).awready = s.awready := by
  unfold restAr; split <;> rfl
@[simp] theorem restAr_wready : (restAr s).wready = s.wready := by
  unfold restAr; split <;> rfl
@[simp] theorem restAr_bvalid : (restAr s).bvalid = s.bvalid := by
  unfold restAr; split <;> rfl
@[simp] theorem restAr_bid : (restAr s).bid = s.bid := by
  unfold restAr; split <;> rfl
@[simp] theorem restAr_awq : (restAr s).awq = s.awq := by
  unfold restAr; split <;> rfl
@[simp] theorem restAr_wq : (restAr s).wq = s.wq := by
  unfold restAr; split <;> rfl
@[simp] theorem restAr_bq : (restAr s).bq = s.bq := by
  unfold restAr; split <;> rfl
@[simp] theorem restAr_pq : (restAr s).pq = s.pq := by
  unfold restAr; split <;> rfl
@[simp] theorem restAr_lq : (restAr s).lq = s.lq := by
  unfold restAr; split <;> rfl
@[simp] theorem restAr_rout : (restAr s).rout = s.rout := by
  unfold restAr; split <;> rfl
@[simp] theorem restAr_pending : (restAr s).pending = s.pending := by
  unfold restAr; split <;> rfl
@[simp] theorem restAr_oq : (restAr s).oq = s.oq := by
  unfold restAr; split <;> rfl
@[simp] theorem restAr_inflight : (restAr s).inflight = s.inflight := by
  unfold restAr; split <;> rfl
@[simp] theorem restAr_mem : (restAr s).mem = s.mem := by
  unfold restAr; split <;> rfl
@[simp] theorem restAr_fault : (restAr s).fault = s.fault := by
  unfold restAr; split <;> rfl
@[simp] theorem restAr_events : (restAr s).events = s.events := by
  unfold restAr; split <;> rfl
@[simp] theorem restAr_drained : (restAr s).drained = s.drained := by
  unfold restAr; split <;> rfl
@[simp] theorem restAr_cycle : (restAr s).cycle = s.cycle := by
  unfold restAr; split <;> rfl
@[simp] theorem restAr_hostAnswer : (restAr s).hostAnswer = s.hostAnswer := by
  unfold restAr; split <;> rfl
@[simp] theorem restAr_stim : (restAr s).stim = s.stim := by
  unfold restAr; split <;> rfl
@[simp] theorem restAr_draws : (restAr s).draws = s.draws := by
  unfold restAr; split <;> rfl

end restAr

/-- A lane lands in the Block Store in every mode (R57). -/
@[simp] theorem writeLane_mem (a : Addr) (v : Byte) (s : State) : (writeLane a v s).mem = writeByte s.mem a v := by
  unfold writeLane; split <;> rfl

end Sys2Proof.Machine
end

