-- ==== Sys2Proof/Laws/Tables.lean ====
section
/-!
SUPPORT. Address-keyed tables in canonical form: what a changed table holds, and that every change keeps the form. The Block
Store and the pending table are two such tables.
-/

namespace Sys2Proof.Machine

section tables

variable {β : Type} [DecidableEq β] {hi lo lo' : Nat} {d : β} {m : List (Nat × β)}

/-- A canonical table from `lo` on is one from any lower key on. -/
theorem tableWf_of_le (h : tableWf hi d lo m = true) (hl : lo' ≤ lo) : tableWf hi d lo' m = true := by
  cases m with
  | nil => rfl
  | cons kv m =>
    obtain ⟨k, v⟩ := kv
    simp only [tableWf, Bool.and_eq_true, decide_eq_true_eq] at h ⊢
    exact ⟨⟨⟨by omega, h.1.1.2⟩, h.1.2⟩, h.2⟩

/-- A canonical table lists nothing below its least key. -/
theorem tableGet_below {a : Nat} (h : tableWf hi d lo m = true) (ha : a < lo) : tableGet d m a = d := by
  induction m generalizing lo with
  | nil => rfl
  | cons kv m ih =>
    obtain ⟨k, v⟩ := kv
    simp only [tableWf, Bool.and_eq_true, decide_eq_true_eq] at h
    rw [tableGet, if_neg (by omega)]
    exact ih h.2 (by omega)

/-- The changed key holds the new value. -/
theorem tableGet_tableSet_same (h : tableWf hi d lo m = true) (a : Nat) (v : β) :
    tableGet d (tableSet d m a v) a = v := by
  induction m generalizing lo with
  | nil => by_cases hv : v = d <;> simp [tableSet, tableGet, hv]
  | cons kv m ih =>
    obtain ⟨k, w⟩ := kv
    have h' := h
    simp only [tableWf, Bool.and_eq_true, decide_eq_true_eq] at h
    have hm := h.2
    unfold tableSet
    split_ifs with h1 h2 h3 h4
    · subst h2
      rw [tableGet, if_neg (by omega)]
      exact tableGet_below hm (by omega)
    · simp [tableGet]
    · subst h3 h4
      exact tableGet_below hm (by omega)
    · subst h3; simp [tableGet]
    · rw [tableGet, if_neg h3]
      exact ih hm

/-- Every other key holds what it held. -/
theorem tableGet_tableSet_other (h : tableWf hi d lo m = true) {a b : Nat} (v : β) (hb : b ≠ a) :
    tableGet d (tableSet d m a v) b = tableGet d m b := by
  induction m generalizing lo with
  | nil => by_cases hv : v = d <;> simp [tableSet, tableGet, hv, hb]
  | cons kv m ih =>
    obtain ⟨k, w⟩ := kv
    simp only [tableWf, Bool.and_eq_true, decide_eq_true_eq] at h
    have hm := h.2
    unfold tableSet
    split_ifs with h1 h2 h3 h4
    · rfl
    · simp [tableGet, hb]
    · subst h3
      rw [tableGet, if_neg hb]
    · subst h3
      simp [tableGet, hb]
    · rw [tableGet, tableGet]
      split_ifs
      · rfl
      · exact ih hm

/-- A change at a key within the bounds keeps the canonical form. -/
theorem tableWf_tableSet (h : tableWf hi d lo m = true) {a : Nat} (v : β) (hl : lo ≤ a) (hh : a < hi) :
    tableWf hi d lo (tableSet d m a v) = true := by
  induction m generalizing lo with
  | nil => by_cases hv : v = d <;> simp [tableSet, tableWf, hv, hl, hh]
  | cons kv m ih =>
    obtain ⟨k, w⟩ := kv
    have h' := h
    simp only [tableWf, Bool.and_eq_true, decide_eq_true_eq] at h
    obtain ⟨⟨⟨hk, hkh⟩, hw⟩, hm⟩ := h
    unfold tableSet
    split_ifs with h1 h2 h3 h4
    · exact h'
    · simp [tableWf, hl, hh, h2, hkh, hw, hm, Nat.succ_le_of_lt h1]
    · exact tableWf_of_le hm (by omega)
    · subst h3; simp [tableWf, hk, hkh, h4, hm]
    · simp only [tableWf, Bool.and_eq_true, decide_eq_true_eq]
      exact ⟨⟨⟨hk, hkh⟩, hw⟩, ih hm (by omega)⟩

end tables

/-- Addresses are within the tables' bound. -/
theorem addr_lt (a : Addr) : a.toNat < 2 ^ 64 := a.isLt

/-- Distinct addresses are distinct keys. -/
theorem addr_toNat_ne {a b : Addr} (h : a ≠ b) : a.toNat ≠ b.toNat := fun h' => h (BitVec.eq_of_toNat_eq h')

/-- A byte write keeps the Block Store canonical. -/
theorem writeByte_wf {m : List Host.Cell} (h : Memory.wf m = true) (a : Addr) (v : Byte) :
    Memory.wf (writeByte m a v) = true :=
  tableWf_tableSet h v (Nat.zero_le _) (addr_lt a)

/-- A change of one address's placeholders keeps the pending table canonical. -/
theorem setPending_wf {s : State} (h : pendingWf s.pending = true) (a : Addr) (l : List ReadBeat) :
    pendingWf (setPending s a l) = true :=
  tableWf_tableSet h l (Nat.zero_le _) (addr_lt a)

/-- A written lane keeps the Block Store canonical. -/
theorem writeLane_wf {s : State} (h : Memory.wf s.mem = true) (a : Addr) (v : Byte) :
    Memory.wf (writeLane a v s).mem = true := by
  rw [writeLane_mem]; exact writeByte_wf h a v

/-- The Block Store after reset is canonical. -/
theorem reset_mem_wf : Memory.wf State.reset.mem = true := rfl

/-- A fresh block's Block Store is canonical. -/
theorem buildBlock_mem_wf (c : Config) (s : State) : Memory.wf (buildBlock c s).mem = true := rfl

end Sys2Proof.Machine
end

