-- ==== Sys2Proof/Laws/Ops.lean ====
section
/-!
SUPPORT. One lemma per shared operation that says once what it can change: the proofs of whole rows and ticks cite these
instead of unfolding the operation.
-/

namespace Sys2Proof.Machine

/-- Writing lanes changes nothing but the Block Store and the event history (R57, R106). -/
theorem applyLanes_frame (a : Addr) (w : WBeat) (is : List Nat) (s : State) :
    applyLanes a w is s = { s with mem := (applyLanes a w is s).mem, events := (applyLanes a w is s).events } := by
  induction is generalizing s with
  | nil => rfl
  | cons i is ih =>
    rw [applyLanes]
    by_cases h : w.strb.getD i false = true
    · rw [if_pos h, ih]
      simp
    · rw [if_neg h]; exact ih s

/-- Writing a data beat changes nothing but the Block Store and the event history (R106). -/
theorem applyBeat_frame (a : Addr) (w : WBeat) (s : State) :
    applyBeat a w s = { s with mem := (applyBeat a w s).mem, events := (applyBeat a w s).events } :=
  applyLanes_frame a w _ s

/-- Writing lanes keeps the Block Store canonical. -/
theorem applyLanes_wf (a : Addr) (w : WBeat) (is : List Nat) {s : State} (h : Memory.wf s.mem = true) :
    Memory.wf (applyLanes a w is s).mem = true := by
  induction is generalizing s with
  | nil => exact h
  | cons i is ih =>
    rw [applyLanes]
    split
    · exact ih (writeLane_wf h _ _)
    · exact ih h

/-- Writing a data beat keeps the Block Store canonical. -/
theorem applyBeat_wf (a : Addr) (w : WBeat) {s : State} (h : Memory.wf s.mem = true) :
    Memory.wf (applyBeat a w s).mem = true := applyLanes_wf a w _ h

/-- In FUNCTIONAL mode a written data beat makes no backend request (R57). -/
theorem applyLanes_functional_events (a : Addr) (w : WBeat) (is : List Nat) {s : State}
    (h : s.cfg.mode = .functional) : (applyLanes a w is s).events = s.events := by
  induction is generalizing s with
  | nil => rfl
  | cons i is ih =>
    rw [applyLanes]
    split
    · rw [ih (by simpa using h)]
      simp [writeLane, h]
    · exact ih h

/-- Registering a burst changes nothing but the tracking table and the event history (R141). -/
theorem registerBeats_frame (id : Id) (bs : List (Addr × Bool)) (s : State) :
    registerBeats id bs s =
      { s with
        pending := (registerBeats id bs s).pending, oq := (registerBeats id bs s).oq
        events := (registerBeats id bs s).events, inflight := (registerBeats id bs s).inflight } := by
  induction bs generalizing s with
  | nil => rfl
  | cons b bs ih =>
    rw [registerBeats, ih]
    simp [registerBeat]

/-- Registering a burst keeps the pending table canonical. -/
theorem registerBeats_wf (id : Id) (bs : List (Addr × Bool)) {s : State} (h : pendingWf s.pending = true) :
    pendingWf (registerBeats id bs s).pending = true := by
  induction bs generalizing s with
  | nil => exact h
  | cons b bs ih => exact ih (setPending_wf h _ _)

/-- Serving an ATOMIC-mode burst changes nothing but the primary queue, the event history and the count of free values
drawn (R164). -/
theorem atomicBeats_frame (id : Id) (bs : List (Addr × Bool)) (s : State) :
    atomicBeats id bs s =
      { s with
        pq := (atomicBeats id bs s).pq, events := (atomicBeats id bs s).events
        draws := (atomicBeats id bs s).draws } := by
  induction bs generalizing s with
  | nil => rfl
  | cons b bs ih =>
    rw [atomicBeats, ih]
    simp [atomicBeat]

/-- `shift(x)` (R120): the output register and the latency register together take `x` behind what the latency register
held. -/
theorem shift_order (x : ReadBeat) (s : State) : (shift x s).rout :: (shift x s).lq = s.lq ++ [x] := by
  unfold shift; split <;> simp_all

/-- `shift(x)` keeps the latency register's depth (R120). -/
theorem shift_depth (x : ReadBeat) (s : State) : (shift x s).lq.length = s.lq.length := by
  have h := congrArg List.length (shift_order x s)
  simpa using h

/-- What is filled in place keeps its number of placeholders (R142). -/
theorem fillOldest_length (d : List DataWord) (l : List ReadBeat) : (fillOldest d l).length = l.length := by
  induction l with
  | nil => rfl
  | cons b l ih =>
    rw [fillOldest]
    split <;> simp [ih]

/-- A burst has `len + 1` beats (R100). -/
theorem burstOf_length (db : Nat) (p : AddrReq) : (burstOf db p).length = p.len.toNat + 1 := by
  simp [burstOf, splitRead]

/-- What a pairing is in terms of the beat's bytes (R107): everything but the Block Store and the event history. -/
theorem pairBeat_frame (e : AwEntry) (es : List AwEntry) (w : WBeat) (ws : List WBeat) (s : State) :
    pairBeat e es w ws s =
      { s with
        mem := (applyBeat e.addr w s).mem, events := (applyBeat e.addr w s).events
        awq := { e with addr := addrAdd e.addr s.cfg.dataBytes, rem := e.rem - 1 } :: es, wq := ws } := by
  rw [pairBeat, applyBeat_frame]

/-- What a burst's last pairing is in terms of the beat's bytes (R108). -/
theorem pairLast_frame (e : AwEntry) (es : List AwEntry) (w : WBeat) (ws : List WBeat) (s : State) :
    pairLast e es w ws s =
      { s with
        mem := (applyBeat e.addr w s).mem, events := (applyBeat e.addr w s).events
        bq := s.bq ++ [{ id := e.id }], awq := es, wq := ws } := by
  rw [pairLast, applyBeat_frame]

/-- All that the PAIR slot can do (R107 to R111). -/
theorem pairSlot_cases (s : State) :
    ((s.awq = [] ∨ s.wq = []) ∧ pairSlot s = s) ∨
    (∃ e es w ws, s.awq = e :: es ∧ s.wq = w :: ws ∧
      ((e.rem = 0 ∧ w.last = true ∧ pairSlot s = pairLast e es w ws s) ∨
       (e.rem = 0 ∧ w.last = false ∧ pairSlot s = raiseFault .wlastMissing s) ∨
       (e.rem ≠ 0 ∧ w.last = true ∧ pairSlot s = raiseFault .wlastEarly s) ∨
       (e.rem ≠ 0 ∧ w.last = false ∧ pairSlot s = pairBeat e es w ws s))) := by
  unfold pairSlot
  split
  · next e es w ws he hw =>
    refine .inr ⟨e, es, w, ws, he, hw, ?_⟩
    by_cases hr : e.rem = 0 <;> cases hl : w.last <;> simp [hr]
  · next h =>
    refine .inl ⟨?_, rfl⟩
    rcases ha : s.awq with _ | ⟨e, es⟩
    · exact .inl rfl
    · rcases hw : s.wq with _ | ⟨w, ws⟩
      · exact .inr rfl
      · exact absurd hw (h e es w ws ha)

/-- All that the DRAIN slot can do in TIMING mode (R144 to R147). -/
theorem drainTiming_cases (s : State) :
    drainTiming s = noDrain s ∨
    (∃ a as e es, s.oq = a :: as ∧ pendingAt s a = e :: es ∧ e.valid = true ∧
      ((e.last = false ∧ drainTiming s = releaseHead a as e es s) ∨
       (e.last = true ∧ drainTiming s = pushGap (releaseHead a as e es s)))) := by
  unfold drainTiming
  split
  · exact .inl rfl
  · next a as ho =>
    split
    · exact .inl rfl
    · next e es hp =>
      cases hv : e.valid
      · exact .inl (by simp)
      · refine .inr ⟨a, as, e, es, ho, hp, hv, ?_⟩
        cases hl : e.last <;> simp

/-- Outside TIMING mode the DRAIN and ARRDY slots do nothing (R166). -/
theorem drain_arrdy_skip {s : State} (h : s.cfg.mode ≠ .timing) : drainSlot s = s ∧ arrdySlot s = s := by
  unfold drainSlot arrdySlot
  cases hm : s.cfg.mode <;> simp_all

/-- All that the R slot can do: hold a valid beat, or advance by one beat (R126, R132). -/
theorem rSlot_cases (inp : Inputs) (s : State) :
    (s.rout.valid = true ∧ inp.rready = false ∧ rSlot inp s = s) ∨
    ((s.rout.valid = false ∨ inp.rready = true) ∧
      ((s.pq = [] ∧ rSlot inp s = advanceFill s) ∨ (∃ x xs, s.pq = x :: xs ∧ rSlot inp s = advanceWith x xs s))) := by
  unfold rSlot
  cases hv : s.rout.valid <;> cases hr : inp.rready <;> simp [advance] <;> (split <;> simp_all)

end Sys2Proof.Machine
end

