-- ==== Sys2Proof/Laws/PerInstr.lean ====
section
/-!
SUPPORT. Per operation: its encoding selects its own row of the opcode table, and no other (R84).
-/

namespace Sys2Proof.Laws.RowSelected

/-- The encoded OSV has its reserved bits 0, and the row that it selects in the encoded format is the operation's own. -/
def Statement (i : Instr) : Prop :=
  ∀ db : Nat, (encode db i).osv >>> 26 = 0 ∧ (encode db i).operand = i.operand db ∧
    (selectRow (encode db i).format (encode db i).osv).map Row.op = some i.opcode

/-- Every row's match word has its reserved bits 0 and selects that row in the row's format. -/
theorem row_selected (op : Opcode) :
    ∃ r, rowOf op = some r ∧ r.pattern >>> 26 = 0 ∧ (selectRow r.format r.pattern).map Row.op = some op := by
  cases op <;> exact ⟨_, rfl, by decide, by decide⟩

theorem of_row (i : Instr) : Statement i := by
  intro db
  obtain ⟨r, hr, hz, hs⟩ := row_selected i.opcode
  simp only [encode, hr]
  exact ⟨hz, trivial, hs⟩

theorem tick (inp : Inputs) : Statement (.tick inp) := of_row _

theorem tickFaulted : Statement .tickFaulted := of_row _

theorem awAccept (p : AddrReq) : Statement (.awAccept p) := of_row _

theorem awIdle : Statement .awIdle := of_row _

theorem awIdleNotready : Statement .awIdleNotready := of_row _

theorem wAccept (w : WBeat) : Statement (.wAccept w) := of_row _

theorem wIdle : Statement .wIdle := of_row _

theorem wIdleNotready : Statement .wIdleNotready := of_row _

theorem arAcceptF (p : AddrReq) : Statement (.arAcceptF p) := of_row _

theorem arAcceptA (p : AddrReq) : Statement (.arAcceptA p) := of_row _

theorem arAcceptT (p : AddrReq) : Statement (.arAcceptT p) := of_row _

theorem arIdle : Statement .arIdle := of_row _

theorem arIdleNotready : Statement .arIdleNotready := of_row _

theorem wpairBeat : Statement .wpairBeat := of_row _

theorem wpairLast : Statement .wpairLast := of_row _

theorem wfaultEarly : Statement .wfaultEarly := of_row _

theorem wfaultMissing : Statement .wfaultMissing := of_row _

theorem wpairIdleNoaw : Statement .wpairIdleNoaw := of_row _

theorem wpairIdleNow : Statement .wpairIdleNow := of_row _

theorem drainBeat : Statement .drainBeat := of_row _

theorem drainLast : Statement .drainLast := of_row _

theorem drainWait : Statement .drainWait := of_row _

theorem drainEmpty : Statement .drainEmpty := of_row _

theorem drainSkip : Statement .drainSkip := of_row _

theorem arrdyTDrained : Statement .arrdyTDrained := of_row _

theorem arrdyTOpen : Statement .arrdyTOpen := of_row _

theorem arrdyTFull : Statement .arrdyTFull := of_row _

theorem arrdySkip : Statement .arrdySkip := of_row _

theorem rXferShift : Statement .rXferShift := of_row _

theorem rFreeShift : Statement .rFreeShift := of_row _

theorem rXferFill : Statement .rXferFill := of_row _

theorem rFreeFill : Statement .rFreeFill := of_row _

theorem rHold : Statement .rHold := of_row _

theorem bXfer : Statement .bXfer := of_row _

theorem bHold : Statement .bHold := of_row _

theorem bIdle : Statement .bIdle := of_row _

theorem cplFill (a : Addr) (bytes : List Byte) : Statement (.cplFill a bytes) := of_row _

theorem cplUnexpected (a : Addr) : Statement (.cplUnexpected a) := of_row _

theorem cplFaulted : Statement .cplFaulted := of_row _

theorem resetF (p : Params) : Statement (.resetF p) := of_row _

theorem resetA (p : Params) : Statement (.resetA p) := of_row _

theorem resetT (p : Params) : Statement (.resetT p) := of_row _

theorem resetReserved : Statement .resetReserved := of_row _

theorem queryInflight : Statement .queryInflight := of_row _

end Sys2Proof.Laws.RowSelected
end

