-- ==== Sys2Proof/Laws/Steps.lean ====
section
/-!
SUPPORT. What an executed operation and a step can be: the inversions that statements about every step start from.
-/

namespace Sys2Proof.Machine

/-- No meaning answers a fault: the block's faults are next states (R201). -/
theorem exec_ne_fault (i : Instr) (s : State) (r : Fault) : exec i s ≠ .fault r := by
  cases i <;> simp only [exec, execTick, execTickFaulted, execAwAccept, execAwIdle, execAwIdleNotready, execWAccept,
    execWIdle, execWIdleNotready, execArAcceptF, execArAcceptA, execArAcceptT, execArIdle, execArIdleNotready,
    execWpairBeat, execWpairLast, execWfaultEarly, execWfaultMissing, execWpairIdleNoaw, execWpairIdleNow,
    execDrainBeat, execDrainLast, execDrainWait, execDrainEmpty, execDrainSkip, execArrdyTDrained, execArrdyTOpen,
    execArrdyTFull, execArrdySkip, execRXferShift, execRFreeShift, execRXferFill, execRFreeFill, execRHold, execBXfer,
    execBHold, execBIdle, execCplFill, execCplUnexpected, execCplFaulted, execResetF, execResetA, execResetT, resetTo,
    execResetReserved, execQueryInflight] <;> (repeat' split) <;> simp

/-- A step that answers a next state executed the operation that its code decodes to. -/
theorem step_next {s t : State} (h : step s = .next t) :
    ∃ i, decode s.cfg.dataBytes (fetchCode s) = .ok i ∧ exec i (fetchState s) = .next t := by
  unfold step at h
  split at h
  · next i hi => exact ⟨i, hi, h⟩
  · exact absurd h (by simp)
  · exact absurd h (by simp)

/-- Taking an environment step changes only the environment's own fields and the cycle index. -/
theorem fetchState_frame (s : State) :
    fetchState s = { s with stim := (fetchState s).stim, draws := (fetchState s).draws, cycle := (fetchState s).cycle } := by
  unfold fetchState takeStimulus countCycle
  split <;> split <;> rfl

/-- All that an executed step-level operation answers as a next state (R161, R162, R142, R143, R202, R220, R152). -/
theorem execTick_next {inp : Inputs} {s t : State} (h : exec (.tick inp) s = .next t) :
    faulted s = false ∧ t = evaluate inp s := by
  simp only [exec, execTick] at h
  split at h
  · exact absurd h (by simp)
  · next hf => exact ⟨by simpa using hf, by simpa using h.symm⟩

/-- All that a tick can deliver (R128): the presented beat, valid and taken, in a tick that reaches its R slot. -/
theorem delivered_eq_some {inp : Inputs} {s : State} {b : ReadBeat} :
    delivered inp s = some b ↔
      faulted s = false ∧ faulted (evaluateFront inp s) = false ∧ s.rout.valid = true ∧ inp.rready = true ∧ b = s.rout := by
  unfold delivered
  cases faulted s <;> cases faulted (evaluateFront inp s) <;> cases s.rout.valid <;> cases inp.rready <;>
    simp [eq_comm]

/-- A fill happens in an unfaulted block with an invalid placeholder at its address (R142). -/
theorem execCplFill_next {a : Addr} {bytes : List Byte} {s t : State} (h : exec (.cplFill a bytes) s = .next t) :
    faulted s = false ∧ cplMatch s a = true ∧ t = fillPending a bytes s := by
  simp only [exec, execCplFill] at h
  split at h
  · exact absurd h (by simp)
  · next hf =>
    simp only [Bool.or_eq_true, not_or, Bool.not_eq_true, Bool.not_eq_false'] at hf
    exact ⟨hf.1, hf.2, by simpa using h.symm⟩

/-- A RESET answers a next state only for a legal configuration, and it is the fresh block (R220, R221). -/
theorem resetTo_next {m : Mode} {p : Params} {s t : State} (h : resetTo m p s = .next t) :
    p.legal = true ∧ t = buildBlock { toParams := p, mode := m } s := by
  unfold resetTo at h
  split at h
  · next hl => exact ⟨hl, by simpa using h.symm⟩
  · exact absurd h (by simp)

end Sys2Proof.Machine
end

