-- ==== Sys2Proof/Tests/Slice0.lean ====
section
/-!
SUPPORT. Tests on fixed values. Expected values are those of spec/95_test_vectors.md (the vector is named at each test) or
are worked out from the rule named; and for each obligation with hypotheses a named state that meets them all.
-/

namespace Sys2Proof.Tests

open Sys2Proof Sys2Proof.Machine

/-! ### Helpers -/

/-- The next state of an outcome, if it is one. -/
def after : Host.Outcome State Fault Refusal → Option State
  | .next s => some s
  | .fault _ => none
  | .refused _ => none

/-- The reason of an outcome that is a refusal. -/
def refusal : Host.Outcome State Fault Refusal → Option Refusal
  | .next _ => none
  | .fault _ => none
  | .refused r => some r

/-- C0 of 95_test_vectors.md section 1 with a mode. -/
def c0 (m : Mode) : Config := { toParams := Params.example, mode := m }

/-- The block right after a RESET to C0 with a mode. -/
def fresh (m : Mode) : State := buildBlock (c0 m) State.reset

/-- The cycle of `TICK`: no VALID, RREADY and BREADY 1 (R86). -/
def idle : Inputs :=
  { awvalid := false, aw := ⟨0, 0, 0⟩, wvalid := false, w := ⟨[0], [false, false, false, false], false⟩, bready := true
    arvalid := false, ar := ⟨0, 0, 0⟩, rready := true }

/-- The cycle of `TICK AR id addr len`. -/
def readCycle (id : Id) (a : Addr) (len : Len) : Inputs := { idle with arvalid := true, ar := ⟨id, a, len⟩ }

/-- A data beat of one word with all strobes set. -/
def fullBeat (d : DataWord) (last : Bool) : WBeat := ⟨[d], [true, true, true, true], last⟩

/-- The cycle of `TICK AW 5 0x100 1 W 0xDDCCBBAA 0xF 0` (V-E1, P1 tick 0). -/
def p1tick0 : Inputs :=
  { idle with awvalid := true, aw := ⟨5, 0x100, 1⟩, wvalid := true, w := fullBeat 0xDDCCBBAA false }

/-- A block with a write burst of three beats to come at 0x100, and its first data beat (V-C9). -/
def pairing : State :=
  { fresh .functional with awq := [⟨5, 0x100, 2⟩], wq := [fullBeat 0xDDCCBBAA false, fullBeat 0x11111111 false] }

/-- A read beat of id 7 outstanding at 0x20 in TIMING mode, as V-T1 leaves it for a burst of one beat. -/
def outstanding (valid last : Bool) : State :=
  { fresh .timing with
    oq := [0x20], inflight := 1, pending := [(0x20, [⟨valid, 7, last, [0]⟩])] }

/-- The environment step of `TICK` (R86). -/
def tickStep : Stimulus := .tick 0x30 0 0 0

/-! ### Well-formedness -/

theorem test_wf_accepts_a_beat : Instr.wellFormed 4 (.wAccept (fullBeat 0 true)) = true := by decide
theorem test_wf_refuses_word_count : Instr.wellFormed 4 (.wAccept ⟨[0, 0], [true, true, true, true], true⟩) = false := by
  decide
theorem test_wf_refuses_strobe_count : Instr.wellFormed 4 (.wAccept ⟨[0], [true, true, true], true⟩) = false := by decide
theorem test_wf_refuses_a_cycle_with_a_short_beat :
    Instr.wellFormed 4 (.tick { idle with w := ⟨[], [true, true, true, true], false⟩ }) = false := by decide
theorem test_wf_refuses_completion_size : Instr.wellFormed 4 (.cplFill 0 [1, 2, 3]) = false := by decide
/-- V-R5: `DATA_BYTES` 6 and 2 are refused; so is `BLOCK_BYTES` 0 (R5). -/
theorem test_wf_refuses_configurations :
    Instr.wellFormed 4 (.resetF { Params.example with dataBytes := 6 }) = false ∧
    Instr.wellFormed 4 (.resetA { Params.example with dataBytes := 2 }) = false ∧
    Instr.wellFormed 4 (.resetT { Params.example with blockBytes := 0 }) = false := by decide

/-! ### Decode: every row, from the words of 30_encoding.md's table -/

theorem test_decode_gate :
    decode 4 ⟨.gate, 0x00000000, .cycle 0x30 0 0 0⟩ = .ok (.tick idle) ∧
    decode 4 ⟨.gate, 0x01200750, .none⟩ = .ok .tickFaulted := by decide
theorem test_decode_aw :
    decode 4 ⟨.aw, 0x00000060, .addr 0x01050000000000000100⟩ = .ok (.awAccept ⟨5, 0x100, 1⟩) ∧
    decode 4 ⟨.aw, 0x00000040, .none⟩ = .ok .awIdle ∧ decode 4 ⟨.aw, 0x00000020, .none⟩ = .ok .awIdleNotready := by decide
theorem test_decode_w :
    decode 4 ⟨.w, 0x00000180, .data 0xFDDCCBBAA⟩ = .ok (.wAccept (fullBeat 0xDDCCBBAA false)) ∧
    decode 4 ⟨.w, 0x00000100, .none⟩ = .ok .wIdle ∧ decode 4 ⟨.w, 0x00000080, .none⟩ = .ok .wIdleNotready := by decide
theorem test_decode_ar :
    decode 4 ⟨.ar, 0x00000600, .addr 0x01030000000000000040⟩ = .ok (.arAcceptF ⟨3, 0x40, 1⟩) ∧
    decode 4 ⟨.ar, 0x00000601, .addr 0x01030000000000000040⟩ = .ok (.arAcceptA ⟨3, 0x40, 1⟩) ∧
    decode 4 ⟨.ar, 0x00000602, .addr 0x01030000000000000040⟩ = .ok (.arAcceptT ⟨3, 0x40, 1⟩) ∧
    decode 4 ⟨.ar, 0x00000401, .none⟩ = .ok .arIdle ∧ decode 4 ⟨.ar, 0x00000202, .none⟩ = .ok .arIdleNotready := by decide
theorem test_decode_pair :
    decode 4 ⟨.pair, 0x00001800, .none⟩ = .ok .wpairBeat ∧ decode 4 ⟨.pair, 0x00007800, .none⟩ = .ok .wpairLast ∧
    decode 4 ⟨.pair, 0x00003800, .none⟩ = .ok .wfaultEarly ∧ decode 4 ⟨.pair, 0x00005800, .none⟩ = .ok .wfaultMissing ∧
    decode 4 ⟨.pair, 0x00003000, .none⟩ = .ok .wpairIdleNoaw ∧
    decode 4 ⟨.pair, 0x00004800, .none⟩ = .ok .wpairIdleNow := by decide
theorem test_decode_drain :
    decode 4 ⟨.drain, 0x00018002, .none⟩ = .ok .drainBeat ∧ decode 4 ⟨.drain, 0x00038002, .none⟩ = .ok .drainLast ∧
    decode 4 ⟨.drain, 0x00028002, .none⟩ = .ok .drainWait ∧ decode 4 ⟨.drain, 0x00000002, .none⟩ = .ok .drainEmpty ∧
    decode 4 ⟨.drain, 0x00000001, .none⟩ = .ok .drainSkip := by decide
theorem test_decode_arrdy :
    decode 4 ⟨.arrdy, 0x000C0002, .none⟩ = .ok .arrdyTDrained ∧ decode 4 ⟨.arrdy, 0x00040002, .none⟩ = .ok .arrdyTOpen ∧
    decode 4 ⟨.arrdy, 0x00000002, .none⟩ = .ok .arrdyTFull ∧ decode 4 ⟨.arrdy, 0x00000001, .none⟩ = .ok .arrdySkip := by
  decide
theorem test_decode_r :
    decode 4 ⟨.r, 0x00700000, .none⟩ = .ok .rXferShift ∧ decode 4 ⟨.r, 0x00400000, .none⟩ = .ok .rFreeShift ∧
    decode 4 ⟨.r, 0x00300000, .none⟩ = .ok .rXferFill ∧ decode 4 ⟨.r, 0x00200000, .none⟩ = .ok .rFreeFill ∧
    decode 4 ⟨.r, 0x00500000, .none⟩ = .ok .rHold := by decide
theorem test_decode_b :
    decode 4 ⟨.b, 0x01800000, .none⟩ = .ok .bXfer ∧ decode 4 ⟨.b, 0x00800000, .none⟩ = .ok .bHold ∧
    decode 4 ⟨.b, 0x01000000, .none⟩ = .ok .bIdle := by decide
theorem test_decode_complete :
    decode 4 ⟨.complete, 0x02000004, .completion 0x24 [0x11, 0x22, 0x33, 0x44]⟩ =
      .ok (.cplFill 0x24 [0x11, 0x22, 0x33, 0x44]) ∧
    decode 4 ⟨.complete, 0x00000004, .completion 0x40 [1, 2, 3, 4]⟩ = .ok (.cplUnexpected 0x40) ∧
    decode 4 ⟨.complete, 0x02000014, .none⟩ = .ok .cplFaulted := by decide
theorem test_decode_reset :
    decode 4 ⟨.reset, 0x00000008, .config Params.example⟩ = .ok (.resetF Params.example) ∧
    decode 4 ⟨.reset, 0x00000019, .config Params.example⟩ = .ok (.resetA Params.example) ∧
    decode 4 ⟨.reset, 0x0000000A, .config Params.example⟩ = .ok (.resetT Params.example) ∧
    decode 4 ⟨.reset, 0x0000000B, .none⟩ = .ok .resetReserved := by decide
theorem test_decode_query : decode 4 ⟨.query, 0x0000001C, .none⟩ = .ok .queryInflight := by decide

/-- V-E1 and V-E2: the ICWs and payloads. -/
theorem test_payloads :
    packIcw p1tick0 = 0x33 ∧ packAddr p1tick0.aw = 0x01050000000000000100 ∧ packW 4 p1tick0.w = 0xFDDCCBBAA ∧
    packIcw (readCycle 3 0x40 1) = 0x38 ∧ packAddr ⟨3, 0x40, 1⟩ = 0x01030000000000000040 := by decide
/-- V-E4: an 8-byte W payload, and the lanes of its words. -/
theorem test_wide_payload :
    packW 8 ⟨[0x33221100, 0x77665544], [true, false, true, false, false, true, false, true], false⟩ =
      0xA57766554433221100 ∧
    (List.range 8).map (lane [0x33221100, 0x77665544]) = [0x00, 0x11, 0x22, 0x33, 0x44, 0x55, 0x66, 0x77] := by decide
/-- P1 tick 1: WLAST at bit 36. -/
theorem test_wlast_payload :
    decode 4 ⟨.w, 0x180, .data 0x1544332211⟩ = .ok (.wAccept ⟨[0x44332211], [true, false, true, false], true⟩) := by decide
/-- R71, R86, R87: what the formats cannot write is rejected by name. -/
theorem test_decode_rejects :
    decode 4 ⟨.w, 0x180, .data 0x2000000000⟩ = .error .payloadTooWide ∧
    decode 4 ⟨.gate, 0, .cycle 0x32 0 0x1500000000 0⟩ = .error .wlastDisagrees ∧
    decode 4 ⟨.complete, 0x02000004, .completion 0 [1, 2, 3]⟩ = .error .completionSize ∧
    decode 4 ⟨.query, 0x0400000C, .none⟩ = .error .reservedBits ∧
    decode 4 ⟨.gate, 0x00000003, .cycle 0 0 0 0⟩ = .error .reservedMode := by decide

/-- The host's two functions on a word of each step kind and on WPAIR_LAST's. -/
theorem test_decodeTableWord :
    decodeTableWord 32 0x60 = some (.awAccept ⟨0, 0, 0⟩) ∧ decodeTableWord 32 0x7800 = some .wpairLast ∧
    decodeTableWord 32 0xA = some (.resetT Params.example) ∧ decodeTableWord 32 0xC = some .queryInflight ∧
    decodeTableWord 32 0x04000000 = none := by decide
theorem test_withFetchWord :
    (after (step (State.reset.withFetchWord 32 0x5800))).map (fun t => t.fault) = some .wlastMissing ∧
    (after (step (State.reset.withFetchWord 32 0x38002))).map (fun t => (t.drained, t.inflight)) = some (true, 0) := by
  decide

/-! ### The OSV: vectors O1 to O7 -/

theorem test_osv_o1 : tickOsv p1tick0 (fresh .functional) = 0x01201DE0 := by decide
/-- O2: P2 tick 5 in the state that P2's table shows for cycle 5. -/
theorem test_osv_o2 :
    tickOsv { idle with wvalid := true, w := fullBeat 0x33333333 true }
      { fresh .functional with awready := false, awq := [⟨3, 0x40, 1⟩], lq := [⟨true, 8, true, [0x11221122]⟩, gapBeat 1]
                               rout := gapBeat 1 } = 0x01203D80 := by decide
/-- O3: P3 tick 4, both reads completed. -/
theorem test_osv_o3 :
    tickOsv idle { fresh .timing with
      oq := [0xA0, 0xB0], inflight := 2
      pending := [(0xA0, [⟨true, 1, true, [0xA3A2A1A0]⟩]), (0xB0, [⟨true, 2, true, [0xB3B2B1B0]⟩])] } = 0x016F8542 := by
  decide
/-- O5: P4 tick 1, three beats outstanding and a full window. -/
theorem test_osv_o5 :
    tickOsv (readCycle 5 0x40 0) { fresh .timing with
      cfg := { c0 .timing with maxInflight := 2 }, arready := false, oq := [0, 4, 8], inflight := 3
      pending := [(0, [⟨false, 4, false, [0]⟩]), (4, [⟨false, 4, false, [0]⟩]), (8, [⟨false, 4, true, [0]⟩])] } =
      0x01208342 := by decide
/-- O7: P2 tick 6, a tick of the faulted block with an AW head and a W head queued, by `tickOsv` and as `step` decodes it. -/
theorem test_osv_o7 :
    (let s := { fresh .functional with
                fault := .wlastEarly, awq := [⟨3, 0x40, 1⟩], wq := [fullBeat 0x33333333 true], rout := gapBeat 1 }
     tickOsv (readCycle 9 0x20 0) s = 0x01200750 ∧
     (stimulusCode (.tick 0x38 0 0 0x00090000000000000020) s).osv = 0x01200750) := by decide
/-- O4: P3's `COMPLETE 0xB0`. -/
theorem test_osv_o4 :
    (stimulusCode (.complete 0x20 [0xB0, 0xB1, 0xB2, 0xB3]) (outstanding false true)).osv = 0x02000006 := by decide
/-- O6: P5 tick 2, a held read beat and a held response. -/
theorem test_osv_o6 :
    tickOsv { idle with rready := false, bready := false }
      { fresh .atomic with arready := false, bvalid := true, bid := 6, bq := [⟨6⟩], rout := ⟨true, 2, false, [0xCAFEBABE]⟩
                           pq := [⟨true, 2, true, [0]⟩, gapBeat 1, gapBeat 1] } = 0x00D00141 := by decide

/-! ### Operand forms -/

/-- V-C2, V-C4, V-C6. -/
theorem test_split_and_align :
    splitRead 4 0x100 3 = [(0x100, false), (0x104, false), (0x108, false), (0x10C, true)] ∧
    splitRead 4 0xFFFFFFFFFFFFFFFC 1 = [(0xFFFFFFFFFFFFFFFC, false), (0, true)] ∧
    align 4 0x103 = 0x100 ∧ align 8 0x1FF = 0x1F8 := by decide
/-- V-T2's packing of completion bytes. -/
theorem test_pack : pack [0x11, 0x22, 0x33, 0x44] = [0x44332211] := by decide
/-- R50, R51: a written byte reads back, another reads 0, and writing 0 again empties the table. -/
theorem test_memory :
    readByte (writeByte [] 5 9) 5 = 9 ∧ readByte (writeByte [] 5 9) 6 = 0 ∧ writeByte (writeByte [] 5 9) 5 0 = [] := by
  decide

/-! ### Single operations -/

/-- V-C7. -/
theorem test_awAccept :
    (after (exec (.awAccept ⟨5, 0x103, 2⟩) (fresh .functional))).map (fun t => (t.awq, t.awready)) =
      some ([⟨5, 0x100, 2⟩], false) := by decide
/-- V-C9. -/
theorem test_wpairBeat :
    (after (exec .wpairBeat pairing)).map (fun t => (t.mem, t.awq, t.wq.length)) =
      some ([(0x100, 0xAA), (0x101, 0xBB), (0x102, 0xCC), (0x103, 0xDD)], [⟨5, 0x104, 1⟩], 1) := by decide
/-- V-C10. -/
theorem test_wpairLast :
    (after (exec .wpairLast { fresh .functional with
        awq := [⟨5, 0x108, 0⟩], wq := [⟨[0x44332211], [true, false, true, false], true⟩] })).map
      (fun t => (t.mem, t.awq, t.wq, t.bq)) = some ([(0x108, 0x11), (0x10A, 0x33)], [], [], [⟨5⟩]) := by decide
/-- V-C17: the backend's writes in lane order. -/
theorem test_timing_write_events :
    (after (exec .wpairLast { fresh .timing with
        awq := [⟨1, 8, 0⟩], wq := [⟨[0xAABBCCDD], [true, false, false, true], true⟩] })).map (fun t => t.events) =
      some [.write 8 0xDD true, .write 0xB 0xAA true] := by decide
/-- V-C12: WFAULT_MISSING ends the tick; the slots before it stand. -/
theorem test_missing_wlast_tick :
    (after (exec (.tick { idle with awvalid := true, aw := ⟨1, 0, 0⟩, wvalid := true, w := fullBeat 0xFFFFFFFF false })
        (fresh .functional))).map (fun t => (t.fault, t.awq, t.mem, t.awready)) =
      some (.wlastMissing, [⟨1, 0, 0⟩], [], false) := by decide
/-- V-T1. -/
theorem test_arAcceptT :
    (after (exec (.arAcceptT ⟨7, 0x20, 1⟩) (fresh .timing))).map (fun t => (t.pending, t.oq, t.inflight, t.events)) =
      some ([(0x20, [⟨false, 7, false, [0]⟩]), (0x24, [⟨false, 7, true, [0]⟩])], [0x20, 0x24], 2,
        [.read 0x20 4 true, .read 0x24 4 true]) := by decide
/-- E1: a byte written at 0x103 is lane 3 of the word read. -/
theorem test_arAcceptF :
    (after (exec (.arAcceptF ⟨2, 0x103, 0⟩) { fresh .functional with mem := [(0x103, 0x5A)] })).map
      (fun t => (t.pq, t.arready)) = some ([⟨true, 2, true, [0x5A000000]⟩, ⟨false, 0, false, [0x55555555]⟩], false) := by
  decide
/-- V-O8: an ATOMIC-mode burst queues its beats and gap at once and stays out of the tracking table. -/
theorem test_arAcceptA :
    (after (exec (.arAcceptA ⟨2, 0x10, 1⟩) (fresh .atomic))).map
      (fun t => (t.pq.map (fun b => (b.valid, b.last)), t.oq, t.pending)) =
      some ([(true, false), (true, true), (false, false)], [], []) := by decide
/-- V-O3: the Block Store as the source of ATOMIC-mode read data. -/
theorem test_arAcceptA_blockStore :
    (after (exec (.arAcceptA ⟨2, 0, 0⟩)
      { fresh .atomic with
        cfg := { c0 .atomic with rdataSrc := .blockStore, rDelay := 0 }, mem := [(0, 0x78)] })).map
      (fun t => (t.pq, t.events)) = some ([⟨true, 2, true, [0x00000078]⟩], [.read 0 4 false]) := by decide
/-- V-T2. -/
theorem test_cplFill :
    (after (exec (.cplFill 0x20 [0x11, 0x22, 0x33, 0x44]) (outstanding false true))).map (fun t => (t.pending, t.oq)) =
      some ([(0x20, [⟨true, 7, true, [0x44332211]⟩])], [0x20]) := by decide
/-- V-T4. -/
theorem test_cplUnexpected :
    (after (exec (.cplUnexpected 0x40) (fresh .timing))).map (fun t => t.fault) = some .unexpectedCompletion := by decide
/-- V-T3: the last beat of a burst is drained with its gap, and ARREADY is 0 after it. -/
theorem test_drainLast_tick :
    (after (exec (.tick idle) (outstanding true true))).map (fun t => (t.oq, t.inflight, t.arready, t.lq.length, t.pq)) =
      some ([], 0, false, 2, [gapBeat 1]) := by decide
/-- V-T9: a zero window. -/
theorem test_zero_window :
    (after (exec (.tick (readCycle 1 0 0)) (buildBlock { c0 .timing with maxInflight := 0 } State.reset))).map
      (fun t => (t.arready, t.inflight)) = some (false, 0) := by decide
/-- V-L3: a valid beat with RREADY 0 is held. -/
theorem test_rHold_tick :
    (after (exec (.tick { idle with rready := false }) { fresh .functional with rout := ⟨true, 1, false, [0]⟩ })).map
      (fun t => t.rout) = some ⟨true, 1, false, [0]⟩ := by decide
/-- R128: V-L3's beat is delivered in the cycle with RREADY 1; a tick that ends in PAIR (P2 tick 5's mismatch), and a tick
of a faulted block, deliver nothing. -/
theorem test_delivered :
    delivered idle { fresh .functional with rout := ⟨true, 1, false, [0]⟩ } = some ⟨true, 1, false, [0]⟩ ∧
    delivered { idle with rready := false } { fresh .functional with rout := ⟨true, 1, false, [0]⟩ } = none ∧
    delivered idle { pairing with rout := ⟨true, 1, false, [0]⟩, wq := [fullBeat 1 true] } = none ∧
    delivered idle { fresh .functional with rout := ⟨true, 1, false, [0]⟩, fault := .wlastEarly } = none := by decide
/-- V-O5: B_XFER presents the next response, and id 0 for none. -/
theorem test_bXfer :
    (after (exec .bXfer { fresh .functional with bq := [⟨5⟩, ⟨6⟩], bvalid := true, bid := 5 })).map
      (fun t => (t.bvalid, t.bid, t.bq)) = some (true, 6, [⟨6⟩]) ∧
    (after (exec .bXfer { fresh .functional with bq := [⟨6⟩], bvalid := true, bid := 6 })).map
      (fun t => (t.bvalid, t.bid)) = some (false, 0) := by decide
/-- V-O2: the read of a tick comes before its write. -/
theorem test_read_before_write :
    (after (exec (.tick { readCycle 3 0x20 0 with
        awvalid := true, aw := ⟨2, 0x20, 0⟩, wvalid := true, w := fullBeat 0x22222222 true })
      { fresh .functional with mem := [(0x20, 0x11), (0x21, 0x11), (0x22, 0x11), (0x23, 0x11)] })).map
      (fun t => (t.lq, t.mem)) =
    some ([bootBeat 1, ⟨true, 3, true, [0x11111111]⟩], [(0x20, 0x22), (0x21, 0x22), (0x22, 0x22), (0x23, 0x22)]) := by
  decide
/-- V-R1, V-R3, V-R4, V-R5. -/
theorem test_reset :
    fresh .functional = State.reset ∧ (fresh .timing).arready = true ∧
    (after (exec (.resetT { Params.example with maxInflight := 0 }) State.reset)).map (fun t => t.arready) = some false ∧
    refusal (exec .resetReserved State.reset) = some .reservedMode ∧
    refusal (exec (.resetF { Params.example with dataBytes := 6 }) State.reset) = some .illegalConfig := by decide
/-- V-T13. -/
theorem test_query :
    (after (exec .queryInflight (outstanding false true))).map (fun t => t.hostAnswer) = some (some 1) := by decide
/-- E4 for one cycle: BOOT beats are presented first. -/
theorem test_warmup : (runTicks [idle, idle, idle] State.reset).map (fun t => (t.rout, t.lq.length)) = some (bootBeat 1, 2) := by
  decide

/-! ### Witnesses: a state and operands that meet the hypotheses of each obligation, named after it -/

theorem witness_DecodeOfEncode : Instr.wellFormed 4 (.tick p1tick0) = true ∧ Instr.wellFormed 4 (.cplFill 0 [1, 2, 3, 4]) = true ∧
    Instr.wellFormed 4 (.resetT Params.example) = true := by decide
theorem witness_UnmaskedOsv :
    (rowOf (Instr.opcode .awIdle) = some ⟨.awIdle, .aw, 0, 0x3C⟩ ∧ (0x03FFFFC2#32 &&& 0x3C = 0) ∧ 0x03FFFFC2#32 >>> 26 = 0 ∧
      0x03FFFFC2#32 &&& 3 ≠ 3) ∧
    (rowOf (Instr.opcode .resetReserved) = some ⟨.resetReserved, .reset, 0xB, 0xF⟩ ∧ 0x03FFFFFB#32 &&& 0xF = 0xB ∧
      0x03FFFFFB#32 >>> 26 = 0) := by decide
theorem witness_NoTwoRows :
    (⟨.tick, .gate, 0, 0x1C⟩ : Row) ∈ rows ∧ Row.selects ⟨.tick, .gate, 0, 0x1C⟩ .gate 0x01201DE0 = true := by decide
theorem witness_ReservedEncodings :
    (0x04000000#32 >>> 26 ≠ 0) ∧ (0x80000000#32 >>> 26 ≠ 0) ∧
    (0x00000003#32 >>> 26 = 0 ∧ Format.gate ≠ .reset ∧ 0x00000003#32 &&& 3 = 3) := by decide
theorem witness_StepRuns :
    (outstanding false true).stim = [] ∧
    decode 4 (stimulusCode tickStep { outstanding false true with stim := [tickStep] }) = .ok (.tick idle) := by decide
theorem witness_WritableSteps :
    Writable 4 (.tick 0x37 0 0x1FFFFFFFFF 0) ∧ Writable 4 (.complete 0x20 [1, 2, 3, 4]) ∧
    Writable 4 (.reset 2 Params.example) ∧ Writable 4 .query :=
  ⟨fun _ => by decide, rfl, ⟨by decide, by decide⟩, trivial⟩
theorem witness_TickDrives :
    (fresh .functional).fault = .none ∧ (fresh .functional).cfg.mode ≠ .timing ∧
    ∃ t, exec (.tick { idle with rready := false }) { outstanding true true with rout := ⟨true, 1, true, [5]⟩ } = .next t ∧
      t.fault = .none := ⟨rfl, by decide, _, rfl, by decide⟩
theorem witness_TickFrame :
    (fresh .functional).cfg.mode ≠ .timing ∧ (fresh .timing).cfg.mode ≠ .atomic ∧
    (∃ t, exec (.tick p1tick0) (fresh .functional) = .next t) ∧ ∃ t, exec (.tick p1tick0) (fresh .timing) = .next t :=
  ⟨by decide, by decide, ⟨_, rfl⟩, _, rfl⟩
theorem witness_TickIsTableDriven : (outstanding true true).fault = .none ∧ p1tick0.wellFormed 4 = true := by decide
theorem witness_Reset : Params.example.legal = true ∧ { Params.example with maxInflight := 0, rLatency := 0 }.legal = true := by
  decide
theorem witness_IllegalConfigurations :
    ¬ LegalValues { Params.example with blockBytes := 0 } ∧ ¬ LegalValues { Params.example with dataBytes := 2 } ∧
    LegalValues { Params.example with blockBytes := 1 } :=
  ⟨fun h => absurd h.2.2 (by decide), fun h => absurd h.2.1 (by decide), ⟨2, rfl⟩, by decide, by decide⟩
theorem witness_OnlyReset : ¬ IsReset (.cplUnexpected 0x40) ∧ ∃ t, exec (.cplUnexpected 0x40) (fresh .timing) = .next t :=
  ⟨by rintro ⟨p, h | h | h⟩ <;> exact Instr.noConfusion h, _, rfl⟩
theorem witness_BlockSize : ¬ IsReset (.tick p1tick0) := by rintro ⟨p, h | h | h⟩ <;> exact Instr.noConfusion h
theorem witness_Memory : Memory.wf [(0, 1), (0x100, 0xAA), (2 ^ 64 - 1, 7)] = true ∧ (0xFFFFFFFFFFFFFFFF : Addr) ≠ 0 := by decide
theorem witness_CanonicalMemory :
    Memory.wf [(5, 9)] = true ∧ ∀ a : Addr, readByte [(5, 9)] a = readByte (writeByte [] 5 9) a := ⟨by decide, fun _ => rfl⟩
theorem witness_SplitRead : 0 < 4 ∧ 256 * 4 < 2 ^ 64 ∧ 255 ≤ (255 : Len).toNat := by decide
theorem witness_Pack : 4 ∣ [0x11, 0x22, 0x33, (0x44 : Byte)].length ∧ 3 < [0x11, 0x22, 0x33, (0x44 : Byte)].length := by decide
theorem witness_Pair :
    pairing.awq = ⟨5, 0x100, 2⟩ :: [] ∧ pairing.wq = fullBeat 0xDDCCBBAA false :: [fullBeat 0x11111111 false] ∧
    Memory.wf pairing.mem = true ∧ pairing.cfg.dataBytes ≤ 2 ^ 64 := by decide
theorem witness_TickWrites : ∃ t, exec (.tick idle) pairing = .next t ∧ readByte t.mem 0x103 = 0xDD := ⟨_, rfl, by decide⟩
/-- Both kinds of mismatch: a missing WLAST on the last beat and an early one. -/
theorem witness_WlastMismatch :
    (let s := { pairing with awq := [⟨5, 0x100, 0⟩] }
     let f := arSlot idle (wSlot idle (awSlot idle s))
     s.fault = .none ∧ f.awq = [⟨5, 0x100, 0⟩] ∧ f.wq = fullBeat 0xDDCCBBAA false :: [fullBeat 0x11111111 false] ∧
     ¬ ((fullBeat 0xDDCCBBAA false).last = true ↔ (⟨5, 0x100, 0⟩ : AwEntry).rem = 0)) ∧
    (let s := { pairing with wq := [fullBeat 1 true] }
     let f := arSlot idle (wSlot idle (awSlot idle s))
     f.awq = [⟨5, 0x100, 2⟩] ∧ f.wq = [fullBeat 1 true] ∧
     ¬ ((fullBeat 1 true).last = true ↔ (⟨5, 0x100, 2⟩ : AwEntry).rem = 0)) := by decide
theorem witness_BurstLength :
    (let beats := [fullBeat 1 false, fullBeat 2 false, fullBeat 3 true]
     let s := { pairing with wq := beats ++ [fullBeat 4 false] }
     s.fault = .none ∧ s.awq = ⟨5, 0x100, 2⟩ :: [] ∧ s.wq = beats ++ [fullBeat 4 false] ∧ beats.length = 2 + 1 ∧
     Memory.wf s.mem = true ∧ s.cfg.dataBytes ≤ 2 ^ 64 ∧
     ∀ k (h : k < beats.length), beats[k].last = true ↔ k = 2) := by decide
theorem witness_ReadResults :
    4 ∣ (fresh .functional).cfg.dataBytes ∧ 255 ≤ (⟨3, 0x1FD, 255⟩ : AddrReq).len.toNat ∧ 3 < (fresh .functional).cfg.dataBytes ∧
    { c0 .atomic with rdataSrc := .blockStore }.rdataSrc = .blockStore ∧ (c0 .atomic).rdataSrc = .backend ∧ pendingWf (outstanding false true).pending = true := by
  decide
theorem witness_ArIdle : (fresh .atomic).cfg.mode ≠ .timing ∧ (fresh .timing).cfg.mode = .timing := by decide
theorem witness_DrainRelease :
    (outstanding true true).oq = 0x20 :: [] ∧ pendingAt (outstanding true true) 0x20 = ⟨true, 7, true, [0]⟩ :: [] ∧
    pendingWf (outstanding true true).pending = true := by decide
/-- V-T5: two placeholders at one address, the older one filled. -/
theorem witness_CompletionFills :
    (let s := { outstanding false true with
                oq := [0x20, 0x20], inflight := 2, pending := [(0x20, [⟨true, 1, true, [9]⟩, ⟨false, 2, true, [0]⟩])] }
     s.fault = .none ∧ pendingWf s.pending = true ∧ pendingAt s 0x20 = [⟨true, 1, true, [9]⟩] ++ ⟨false, 2, true, [0]⟩ :: [] ∧
     (∀ b ∈ [(⟨true, 1, true, [9]⟩ : ReadBeat)], b.valid = true)) := by decide
theorem witness_OtherCompletion :
    (outstanding true true).fault = .none ∧ (∀ b ∈ pendingAt (outstanding true true) 0x20, b.valid = true) ∧
    (raiseFault .wlastEarly (fresh .timing)).fault ≠ .none := by decide
theorem witness_CompletionOrder :
    (let s := { outstanding false true with
                oq := [0x20, 0x24], inflight := 2, pending := [(0x20, [⟨false, 1, true, [0]⟩]), (0x24, [⟨false, 2, true, [0]⟩])] }
     pendingWf s.pending = true ∧ (0x20 : Addr) ≠ 0x24 ∧
     ∃ t u, exec (.cplFill 0x20 [1, 2, 3, 4]) s = .next t ∧ exec (.cplFill 0x24 [5, 6, 7, 8]) t = .next u) :=
  ⟨by decide, by decide, _, _, rfl, rfl⟩
theorem witness_HeadOfLine :
    (outstanding false true).cfg.mode = .timing ∧ (outstanding false true).oq = 0x20 :: [] ∧
    pendingAt (outstanding false true) 0x20 = ⟨false, 7, true, [0]⟩ :: [] ∧
    ∃ t, exec (.tick (readCycle 1 0x20 3)) (outstanding false true) = .next t ∧ t.fault = .none :=
  ⟨rfl, rfl, by decide, _, rfl, by decide⟩
theorem witness_Query : TableIdle (fresh .atomic) ∧ (fresh .atomic).cfg.mode ≠ .timing :=
  ⟨fun _ => ⟨rfl, rfl, rfl⟩, by decide⟩
theorem witness_AdvancingR : { fresh .functional with pq := [gapBeat 1] }.pq = gapBeat 1 :: [] := rfl
theorem witness_HeldBeat :
    (let s := { fresh .functional with rout := ⟨true, 1, false, [0]⟩ }
     s.rout.valid = true ∧ ∃ t, exec (.tick { idle with rready := false }) s = .next t) := ⟨rfl, _, rfl⟩
/-- A tick that a fault ends, a hold, an advance with a beat queued, and an advance that fills. -/
theorem witness_PipelineIsFifo :
    (∃ t, exec (.tick idle) { pairing with wq := [fullBeat 1 true] } = .next t ∧ t.fault ≠ .none) ∧
    (∃ t, exec (.tick { idle with rready := false }) { fresh .functional with rout := ⟨true, 1, false, [0]⟩ } = .next t) ∧
    (∃ t, exec (.tick (readCycle 1 0 0)) (fresh .functional) = .next t ∧ t.fault = .none) ∧
    (∃ t, exec (.tick idle) (fresh .functional) = .next t ∧ t.fault = .none) :=
  ⟨⟨_, rfl, by decide⟩, ⟨_, rfl⟩, ⟨_, rfl, by decide⟩, ⟨_, rfl, by decide⟩⟩
theorem witness_WarmUp :
    (∀ inp ∈ [idle, { idle with rready := false }, idle, idle], inp.arvalid = false) ∧
    ∃ t, runTicks [idle, { idle with rready := false }, idle, idle] (buildBlock (c0 .timing) State.reset) = some t :=
  ⟨by decide, _, rfl⟩
/-- P1's read: two beats, `k = 1`, `R_LATENCY` 2, three further ticks. -/
theorem witness_FunctionalLatency :
    (fresh .functional).cfg.mode = .functional ∧ 4 ∣ (fresh .functional).cfg.dataBytes ∧ LatencyDepth (fresh .functional) ∧
    (fresh .functional).pq = [] ∧ (fresh .functional).rout.valid = false ∧ (fresh .functional).arready = true ∧
    1 ≤ (readCycle 3 0x100 1).ar.len.toNat ∧ [idle, idle, idle].length = (fresh .functional).cfg.rLatency + 1 ∧
    (∀ i ∈ [idle, idle, idle], i.rready = true) ∧
    ∃ t, runTicks (readCycle 3 0x100 1 :: [idle, idle, idle]) (fresh .functional) = some t ∧ t.fault = .none :=
  ⟨rfl, by decide, rfl, rfl, rfl, rfl, by decide, rfl, by decide, _, rfl, by decide⟩

/-- The invariants, in a block with a read outstanding and a TICK to come. -/
theorem witness_Inv : Inv { outstanding false true with stim := [tickStep] } where
  configLegal := by unfold ConfigLegal; decide
  latencyDepth := rfl
  pendingMatchesOrder a := by
    by_cases h : a = 0x20
    · subst h; decide
    · have h' : a.toNat ≠ 0x20 := fun e => h (BitVec.eq_of_toNat_eq e)
      simpa [pendingAt, outstanding, tableGet, h', List.count_cons] using Ne.symm h
  inflightCounts := rfl
  tableIdle h := absurd rfl h
  responsePresented := ⟨rfl, rfl⟩
  burstsBounded e h := nomatch h
  wreadyHigh := rfl
  canonical := by unfold Canonical; decide
  windowBounded _ := by decide
  functionalSilent h := nomatch h
/-- The invariants with a zero window. -/
theorem witness_Inv_zero_window : Inv (buildBlock { c0 .timing with maxInflight := 0 } State.reset) where
  configLegal := by unfold ConfigLegal; decide
  latencyDepth := rfl
  pendingMatchesOrder _ := rfl
  inflightCounts := rfl
  tableIdle h := absurd rfl h
  responsePresented := ⟨rfl, rfl⟩
  burstsBounded e h := nomatch h
  wreadyHigh := rfl
  canonical := ⟨rfl, rfl⟩
  windowBounded _ := by decide
  functionalSilent h := nomatch h

theorem witness_ReadBeats :
    (∃ t, exec (.tick (readCycle 1 0x24 1)) { outstanding false true with stim := [tickStep] } = .next t ∧ t.fault = .none) ∧
    (∃ t, exec (.tick { readCycle 1 0x24 1 with awvalid := true, wvalid := true })
      { outstanding false true with stim := [tickStep] } = .next t ∧ t.fault ≠ .none) ∧
    (∃ t, exec (.cplFill 0x20 [1, 2, 3, 4]) { outstanding false true with stim := [tickStep] } = .next t) :=
  ⟨⟨_, rfl, by decide⟩, ⟨_, rfl, by decide⟩, _, rfl⟩
theorem witness_BRows : { fresh .functional with bq := [⟨5⟩, ⟨6⟩] }.bq = ⟨5⟩ :: [⟨6⟩] := rfl
theorem witness_Responses :
    ∃ t, exec (.tick idle) { fresh .functional with bq := [⟨5⟩, ⟨6⟩], bvalid := true, bid := 5 } = .next t ∧ t.fault = .none :=
  ⟨_, rfl, by decide⟩
theorem witness_FaultIsSticky :
    (let s := { raiseFault .wlastEarly (fresh .timing) with stim := [.complete 0x20 [1, 2, 3, 4]] }
     s.fault ≠ .none ∧ (∃ t, step s = .next t) ∧ ∀ m p, nextStimulus s ≠ .reset m p) :=
  ⟨by decide, ⟨_, rfl⟩, fun _ _ h => Stimulus.noConfusion h⟩
theorem witness_FaultsComeAndGo :
    (∃ t, exec (.resetA Params.example) (raiseFault .wlastEarly (fresh .timing)) = .next t ∧ t.fault = .none) ∧
    (∃ t, exec (.cplUnexpected 0x40) (fresh .timing) = .next t ∧ t.fault ≠ .none) :=
  ⟨⟨_, rfl, by decide⟩, _, rfl, by decide⟩
theorem witness_InvariantsAtReset : (c0 .timing).legal = true := by decide
theorem witness_EveryStep : ∃ t, step { outstanding false true with stim := [tickStep] } = .next t := ⟨_, rfl⟩
theorem witness_WindowBound :
    (∃ t, Reaches { outstanding false true with stim := [tickStep] } t ∧ t.cfg.mode = .timing ∧
      1 ≤ min t.cfg.maxInflight t.cfg.inflightCeil) ∧
    (∃ t, Reaches (buildBlock { c0 .timing with maxInflight := 0 } State.reset) t ∧ t.cfg.mode = .timing ∧
      min t.cfg.maxInflight t.cfg.inflightCeil = 0) ∧
    (outstanding false true).inflight ≤
      min (outstanding false true).cfg.maxInflight (outstanding false true).cfg.inflightCeil ∧ (readCycle 1 0x24 0).ar.len = 0 :=
  ⟨⟨_, .step (.refl _) rfl, by decide, by decide⟩, ⟨_, .refl _, rfl, rfl⟩, by decide, rfl⟩
theorem witness_ReadsBeforeWrites :
    (fresh .functional).cfg.mode = .functional ∧ (readCycle 1 0 0).arvalid = true ∧ (fresh .functional).arready = true ∧
    ((let s := { fresh .atomic with cfg := { c0 .atomic with rdataSrc := .blockStore } }
      s.cfg.mode = .atomic ∧ s.cfg.rdataSrc = .blockStore ∧ s.arready = true)) ∧
    ∃ t, exec (.tick (readCycle 1 0 0)) (fresh .functional) = .next t := ⟨rfl, rfl, rfl, ⟨rfl, rfl, rfl⟩, _, rfl⟩
theorem witness_TimingMode :
    (outstanding true true).cfg.mode = .timing ∧ (∃ t, exec (.tick p1tick0) (outstanding true true) = .next t) ∧
    ∃ t, exec (.tick p1tick0) { outstanding true true with mem := [(0x20, 1)] } = .next t := ⟨rfl, ⟨_, rfl⟩, _, rfl⟩

/-- A delivered beat, a faulted block, and a tick that a fault ends. -/
theorem witness_Delivery :
    delivered idle { fresh .functional with rout := ⟨true, 1, false, [0]⟩ } ≠ none ∧
    (raiseFault .wlastEarly (fresh .timing)).fault ≠ .none ∧
    ∃ t, exec (.tick idle) { pairing with wq := [fullBeat 1 true] } = .next t ∧ t.fault ≠ .none :=
  ⟨by decide, by decide, _, rfl, by decide⟩
/-- The delivered beat is replaced also with `R_LATENCY` 0 (V-L5): by FILL, and by the queued beat where there is one. -/
theorem test_delivery_without_latency :
    (let s := { fresh .functional with cfg := { c0 .functional with rLatency := 0 }, lq := [], rout := ⟨true, 1, true, [0]⟩ }
     delivered idle s = some ⟨true, 1, true, [0]⟩ ∧
     (after (exec (.tick idle) s)).map (fun t => t.rout) = some (fillBeat 1) ∧
     (after (exec (.tick idle) { s with pq := [gapBeat 1] })).map (fun t => (t.rout, t.pq)) = some (gapBeat 1, [])) := by
  decide
/-- One read beat pair in ATOMIC mode, `k = 1`; the source is BACKEND, and BLOCKSTORE in the last clause. -/
theorem witness_AtomicLatency :
    (fresh .atomic).cfg.mode = .atomic ∧ 4 ∣ (fresh .atomic).cfg.dataBytes ∧ LatencyDepth (fresh .atomic) ∧
    (fresh .atomic).pq = [] ∧ (fresh .atomic).rout.valid = false ∧ (fresh .atomic).arready = true ∧
    1 ≤ (readCycle 3 0x100 1).ar.len.toNat ∧ [idle, idle, idle].length = (fresh .atomic).cfg.rLatency + 1 ∧
    (∃ t, runTicks (readCycle 3 0x100 1 :: [idle, idle, idle]) (fresh .atomic) = some t ∧ t.fault = .none) ∧
    ∃ t, runTicks (readCycle 3 0x100 1 :: [idle, idle, idle])
      { fresh .atomic with cfg := { c0 .atomic with rdataSrc := .blockStore } } = some t ∧ t.fault = .none :=
  ⟨rfl, by decide, rfl, rfl, rfl, rfl, by decide, rfl, ⟨_, rfl, by decide⟩, _, rfl, by decide⟩

end Sys2Proof.Tests
end

section
/-!
The configuration after each slot operation, and the inversions of the rows that are refused in some states.
-/

namespace Sys2Proof.Machine

/-- The acceptance of a FUNCTIONAL-mode burst touches the primary queue and ARREADY only (R163). -/
theorem acceptF_frame (p : AddrReq) (s : State) :
    acceptF p s = { s with pq := (acceptF p s).pq, arready := false } := rfl

/-- The acceptance of an ATOMIC-mode burst touches the primary queue, ARREADY, the event history and the count of free
values drawn only (R164). -/
theorem acceptA_frame (p : AddrReq) (s : State) :
    acceptA p s =
      { s with
        pq := (acceptA p s).pq, events := (acceptA p s).events, draws := (acceptA p s).draws, arready := false } := by
  rw [acceptA, atomicBeats_frame]; rfl

@[simp] theorem acceptF_cfg (p : AddrReq) (s : State) : (acceptF p s).cfg = s.cfg := rfl

@[simp] theorem acceptA_cfg (p : AddrReq) (s : State) : (acceptA p s).cfg = s.cfg := by rw [acceptA_frame]

@[simp] theorem acceptT_cfg (p : AddrReq) (s : State) : (acceptT p s).cfg = s.cfg := by
  rw [acceptT, registerBeats_frame]

@[simp] theorem pairBeat_cfg (e : AwEntry) (es : List AwEntry) (w : WBeat) (ws : List WBeat) (s : State) :
    (pairBeat e es w ws s).cfg = s.cfg := by rw [pairBeat_frame]

@[simp] theorem pairLast_cfg (e : AwEntry) (es : List AwEntry) (w : WBeat) (ws : List WBeat) (s : State) :
    (pairLast e es w ws s).cfg = s.cfg := by rw [pairLast_frame]

@[simp] theorem advanceWith_cfg (x : ReadBeat) (xs : List ReadBeat) (s : State) :
    (advanceWith x xs s).cfg = s.cfg := by simp [advanceWith]

@[simp] theorem advanceFill_cfg (s : State) : (advanceFill s).cfg = s.cfg := by simp [advanceFill]

/-- TICK_FAULTED completes in a faulted block, unchanged (R162). -/
theorem execTickFaulted_next {s t : State} (h : exec .tickFaulted s = .next t) : faulted s = true ∧ t = s := by
  simp only [exec, execTickFaulted] at h
  split at h
  · next hf => exact ⟨hf, by simpa using h.symm⟩
  · exact absurd h (by simp)

/-- WPAIR_BEAT completes where both queues have a head (R107). -/
theorem execWpairBeat_next {s t : State} (h : exec .wpairBeat s = .next t) :
    ∃ e es w ws, s.awq = e :: es ∧ s.wq = w :: ws ∧ t = pairBeat e es w ws s := by
  simp only [exec, execWpairBeat] at h
  split at h
  · next e es w ws ha hw => exact ⟨e, es, w, ws, ha, hw, by simpa using h.symm⟩
  · exact absurd h (by simp)

/-- WPAIR_LAST completes where both queues have a head (R108). -/
theorem execWpairLast_next {s t : State} (h : exec .wpairLast s = .next t) :
    ∃ e es w ws, s.awq = e :: es ∧ s.wq = w :: ws ∧ t = pairLast e es w ws s := by
  simp only [exec, execWpairLast] at h
  split at h
  · next e es w ws ha hw => exact ⟨e, es, w, ws, ha, hw, by simpa using h.symm⟩
  · exact absurd h (by simp)

/-- DRAIN_BEAT completes where the head address has a placeholder (R144). -/
theorem execDrainBeat_next {s t : State} (h : exec .drainBeat s = .next t) :
    ∃ a as e es, s.oq = a :: as ∧ pendingAt s a = e :: es ∧ t = releaseHead a as e es s := by
  simp only [exec, execDrainBeat] at h
  split at h
  · exact absurd h (by simp)
  · next a as ho =>
    split at h
    · exact absurd h (by simp)
    · next e es hp => exact ⟨a, as, e, es, ho, hp, by simpa using h.symm⟩

/-- DRAIN_LAST completes where the head address has a placeholder (R145). -/
theorem execDrainLast_next {s t : State} (h : exec .drainLast s = .next t) :
    ∃ a as e es, s.oq = a :: as ∧ pendingAt s a = e :: es ∧ t = pushGap (releaseHead a as e es s) := by
  simp only [exec, execDrainLast] at h
  split at h
  · exact absurd h (by simp)
  · next a as ho =>
    split at h
    · exact absurd h (by simp)
    · next e es hp => exact ⟨a, as, e, es, ho, hp, by simpa using h.symm⟩

/-- R_XFER_SHIFT and R_FREE_SHIFT complete where a beat is queued, with one effect (R124). -/
theorem execRShift_next {s t : State} (h : exec .rXferShift s = .next t ∨ exec .rFreeShift s = .next t) :
    ∃ x xs, s.pq = x :: xs ∧ t = advanceWith x xs s := by
  cases hq : s.pq with
  | nil => simp [exec, execRXferShift, execRFreeShift, hq] at h
  | cons x xs => exact ⟨x, xs, rfl, by simpa [exec, execRXferShift, execRFreeShift, hq, eq_comm] using h⟩

/-- CPL_UNEXPECTED completes in an unfaulted block without an invalid placeholder at its address (R143). -/
theorem execCplUnexpected_next {a : Addr} {s t : State} (h : exec (.cplUnexpected a) s = .next t) :
    faulted s = false ∧ cplMatch s a = false ∧ t = raiseFault .unexpectedCompletion s := by
  simp only [exec, execCplUnexpected] at h
  split at h
  · exact absurd h (by simp)
  · next hn =>
    simp only [Bool.or_eq_true, not_or, Bool.not_eq_true] at hn
    obtain ⟨hf, hm⟩ := hn
    exact ⟨hf, hm, by simpa using h.symm⟩

/-- CPL_FAULTED completes in a faulted block, unchanged (R202). -/
theorem execCplFaulted_next {s t : State} (h : exec .cplFaulted s = .next t) : faulted s = true ∧ t = s := by
  simp only [exec, execCplFaulted] at h
  split at h
  · next hf => exact ⟨hf, by simpa using h.symm⟩
  · exact absurd h (by simp)

/-- QUERY_INFLIGHT completes in every state and records its answer (R152). -/
theorem execQueryInflight_next {s t : State} (h : exec .queryInflight s = .next t) :
    t = { s with hostAnswer := some s.inflight } := by
  simpa [exec, execQueryInflight, requestsOnFlight] using h.symm

end Sys2Proof.Machine
end

section
/-!
What no slot of a tick changes, slot by slot, and from there what no tick changes.
-/

namespace Sys2Proof.Machine

/-- What no slot of a tick changes from `s` to `t` (R161): the configuration (R6), the tracking table outside TIMING mode
(R166, R176), the backend history in FUNCTIONAL mode (R177), and the model's own fields, but for the free values that
ATOMIC mode draws (log 3). -/
structure SlotFrame (s t : State) : Prop where
  cfg : t.cfg = s.cfg
  table : s.cfg.mode ≠ .timing → t.oq = s.oq ∧ t.pending = s.pending ∧ t.inflight = s.inflight ∧ t.drained = s.drained
  events : s.cfg.mode = .functional → t.events = s.events
  stim : t.stim = s.stim
  cycle : t.cycle = s.cycle
  hostAnswer : t.hostAnswer = s.hostAnswer
  draws : s.cfg.mode ≠ .atomic → t.draws = s.draws

variable {s t u : State}

theorem SlotFrame.refl (s : State) : SlotFrame s s := by constructor <;> simp

/-- Slots run one after the other: the mode that the later slot's clauses read is the first state's. -/
theorem SlotFrame.trans (h : SlotFrame s t) (h' : SlotFrame t u) : SlotFrame s u where
  cfg := h'.cfg.trans h.cfg
  table hm := by
    obtain ⟨hoq, hpending, hinflight, hdrained⟩ := h.table hm
    obtain ⟨hoq', hpending', hinflight', hdrained'⟩ := h'.table (by rwa [h.cfg])
    exact ⟨hoq'.trans hoq, hpending'.trans hpending, hinflight'.trans hinflight, hdrained'.trans hdrained⟩
  events hm := (h'.events (by rwa [h.cfg])).trans (h.events hm)
  stim := h'.stim.trans h.stim
  cycle := h'.cycle.trans h.cycle
  hostAnswer := h'.hostAnswer.trans h.hostAnswer
  draws hm := (h'.draws (by rwa [h.cfg])).trans (h.draws hm)

/-- In TIMING mode the tracking table and the backend history are the slots' own. -/
theorem SlotFrame.of_timing (hm : s.cfg.mode = .timing) (hcfg : t.cfg = s.cfg) (hstim : t.stim = s.stim)
    (hcycle : t.cycle = s.cycle) (hanswer : t.hostAnswer = s.hostAnswer) (hdraws : t.draws = s.draws) :
    SlotFrame s t where
  cfg := hcfg
  table h := absurd hm h
  events h := by simp [hm] at h
  stim := hstim
  cycle := hcycle
  hostAnswer := hanswer
  draws _ := hdraws

theorem awSlot_slotFrame (inp : Inputs) (s : State) : SlotFrame s (awSlot inp s) := by
  unfold awSlot
  split
  · constructor <;> simp
  · constructor <;> simp

theorem wSlot_slotFrame (inp : Inputs) (s : State) : SlotFrame s (wSlot inp s) := by
  unfold wSlot
  split
  · constructor <;> simp
  · constructor <;> simp

theorem acceptF_slotFrame (p : AddrReq) (s : State) : SlotFrame s (acceptF p s) := by
  rw [acceptF_frame]; constructor <;> simp

theorem acceptA_slotFrame (p : AddrReq) (hm : s.cfg.mode = .atomic) : SlotFrame s (acceptA p s) := by
  rw [acceptA_frame]; constructor <;> simp [hm]

theorem acceptT_slotFrame (p : AddrReq) (hm : s.cfg.mode = .timing) : SlotFrame s (acceptT p s) := by
  rw [acceptT, registerBeats_frame]
  exact .of_timing hm rfl rfl rfl rfl rfl

/-- The AR slot registers placeholders in TIMING mode and draws free values in ATOMIC mode, and in no other (R141, R163 to
R165). -/
theorem arSlot_slotFrame (inp : Inputs) (s : State) : SlotFrame s (arSlot inp s) := by
  unfold arSlot
  split
  · split
    · exact acceptF_slotFrame _ s
    · next hm => exact acceptA_slotFrame _ hm
    · next hm => exact acceptT_slotFrame _ hm
  · constructor <;> simp

theorem applyBeat_functional_events (a : Addr) (w : WBeat) (hm : s.cfg.mode = .functional) :
    (applyBeat a w s).events = s.events := applyLanes_functional_events a w _ hm

/-- The PAIR slot makes backend requests through the written lanes only, and in FUNCTIONAL mode these make none (R57). -/
theorem pairSlot_slotFrame (s : State) : SlotFrame s (pairSlot s) := by
  obtain ⟨-, h⟩ | ⟨e, es, w, ws, -, -, ⟨-, -, h⟩ | ⟨-, -, h⟩ | ⟨-, -, h⟩ | ⟨-, -, h⟩⟩ := pairSlot_cases s
  · rw [h]; exact .refl s
  · rw [h, pairLast_frame]; constructor <;> simp +contextual [applyBeat_functional_events]
  · rw [h]; constructor <;> simp
  · rw [h]; constructor <;> simp
  · rw [h, pairBeat_frame]; constructor <;> simp +contextual [applyBeat_functional_events]

theorem drainSlot_timing (hm : s.cfg.mode = .timing) : drainSlot s = drainTiming s := by simp [drainSlot, hm]

/-- The DRAIN slot releases from the tracking table in TIMING mode only (R144 to R147, R166). -/
theorem drainSlot_slotFrame (s : State) : SlotFrame s (drainSlot s) := by
  by_cases hm : s.cfg.mode = .timing
  · rw [drainSlot_timing hm]
    obtain h | ⟨a, as, e, es, -, -, -, ⟨-, h⟩ | ⟨-, h⟩⟩ := drainTiming_cases s <;> rw [h] <;>
      exact .of_timing hm rfl rfl rfl rfl rfl
  · rw [(drain_arrdy_skip hm).1]; exact .refl s

theorem arrdySlot_slotFrame (s : State) : SlotFrame s (arrdySlot s) := by
  unfold arrdySlot
  split
  · exact .refl s
  · exact .refl s
  · split
    · constructor <;> simp
    · constructor <;> simp

theorem rSlot_slotFrame (inp : Inputs) (s : State) : SlotFrame s (rSlot inp s) := by
  obtain ⟨-, -, h⟩ | ⟨-, ⟨-, h⟩ | ⟨x, xs, -, h⟩⟩ := rSlot_cases inp s <;> rw [h]
  · exact .refl s
  · constructor <;> simp [advanceFill]
  · constructor <;> simp [advanceWith]

theorem bSlot_slotFrame (inp : Inputs) (s : State) : SlotFrame s (bSlot inp s) := by
  unfold bSlot
  split
  · constructor <;> simp
  · constructor <;> simp

theorem evaluateFront_slotFrame (inp : Inputs) (s : State) : SlotFrame s (evaluateFront inp s) :=
  (awSlot_slotFrame inp s).trans <| (wSlot_slotFrame inp _).trans <| (arSlot_slotFrame inp _).trans (pairSlot_slotFrame _)

theorem evaluateBack_slotFrame (inp : Inputs) (s : State) : SlotFrame s (evaluateBack inp s) :=
  (drainSlot_slotFrame s).trans <| (arrdySlot_slotFrame _).trans <| (rSlot_slotFrame inp _).trans (bSlot_slotFrame inp _)

/-- The slots' frame is the tick's, whether PAIR ends it or not (R161, R201). -/
theorem evaluate_slotFrame (inp : Inputs) (s : State) : SlotFrame s (evaluate inp s) := by
  unfold evaluate
  split
  · exact evaluateFront_slotFrame inp s
  · exact (evaluateFront_slotFrame inp s).trans (evaluateBack_slotFrame inp _)

/-- Settles O10: every slot keeps `SlotFrame`, and a tick is its slots in order. -/
theorem tickFrame : Obligations.TickFrame := by
  intro inp s t h
  obtain ⟨-, rfl⟩ := execTick_next h
  obtain ⟨hcfg, htable, hevents, hstim, hcycle, hanswer, hdraws⟩ := evaluate_slotFrame inp s
  exact ⟨hcfg, htable, hevents, hstim, hcycle, hanswer, hdraws⟩

@[simp] theorem evaluate_cfg (inp : Inputs) (s : State) : (evaluate inp s).cfg = s.cfg := (evaluate_slotFrame inp s).cfg

end Sys2Proof.Machine
end

section
/-!
No operation but a RESET changes the configuration.
-/

namespace Sys2Proof.Machine

/-- A meaning that answers `u` in every state keeps the configuration when `u` does. -/
theorem cfg_of_next {s t u : State} (hu : u.cfg = s.cfg)
    (h : (.next u : Host.Outcome State Fault Refusal) = .next t) : t.cfg = s.cfg := by
  cases h; exact hu

/-- Settles O14, row by row: a row's meaning is one of the named operations, each of which keeps the configuration. -/
theorem onlyResetChangesTheConfiguration : Obligations.OnlyResetChangesTheConfiguration := by
  intro i s t hi h
  cases i with
  | tick inp => obtain ⟨-, rfl⟩ := execTick_next h; exact evaluate_cfg inp s
  | tickFaulted => obtain ⟨-, rfl⟩ := execTickFaulted_next h; rfl
  | awAccept p => exact cfg_of_next (captureAw_cfg p s) h
  | awIdle | awIdleNotready => exact cfg_of_next (restAw_cfg s) h
  | wAccept w => exact cfg_of_next (captureW_cfg w s) h
  | wIdle | wIdleNotready => exact cfg_of_next (restW_cfg s) h
  | arAcceptF p => exact cfg_of_next (acceptF_cfg p s) h
  | arAcceptA p => exact cfg_of_next (acceptA_cfg p s) h
  | arAcceptT p => exact cfg_of_next (acceptT_cfg p s) h
  | arIdle | arIdleNotready => exact cfg_of_next (restAr_cfg s) h
  | wpairBeat => obtain ⟨e, es, w, ws, -, -, rfl⟩ := execWpairBeat_next h; exact pairBeat_cfg e es w ws s
  | wpairLast => obtain ⟨e, es, w, ws, -, -, rfl⟩ := execWpairLast_next h; exact pairLast_cfg e es w ws s
  | wfaultEarly => exact cfg_of_next (raiseFault_cfg .wlastEarly s) h
  | wfaultMissing => exact cfg_of_next (raiseFault_cfg .wlastMissing s) h
  | wpairIdleNoaw | wpairIdleNow | drainSkip | arrdySkip | rHold => exact cfg_of_next rfl h
  | drainBeat => obtain ⟨a, as, e, es, -, -, rfl⟩ := execDrainBeat_next h; exact releaseHead_cfg a as e es s
  | drainLast => obtain ⟨a, as, e, es, -, -, rfl⟩ := execDrainLast_next h; exact releaseHead_cfg a as e es s
  | drainWait | drainEmpty => exact cfg_of_next (noDrain_cfg s) h
  | arrdyTDrained | arrdyTFull => exact cfg_of_next (driveArready_cfg false s) h
  | arrdyTOpen => exact cfg_of_next (driveArready_cfg true s) h
  | rXferShift => obtain ⟨x, xs, -, rfl⟩ := execRShift_next (.inl h); exact advanceWith_cfg x xs s
  | rFreeShift => obtain ⟨x, xs, -, rfl⟩ := execRShift_next (.inr h); exact advanceWith_cfg x xs s
  | rXferFill | rFreeFill => exact cfg_of_next (advanceFill_cfg s) h
  | bXfer => exact cfg_of_next (popB_cfg s) h
  | bHold | bIdle => exact cfg_of_next (updateB_cfg s) h
  | cplFill a bytes => obtain ⟨-, -, rfl⟩ := execCplFill_next h; exact fillPending_cfg a bytes s
  | cplUnexpected a => obtain ⟨-, -, rfl⟩ := execCplUnexpected_next h; exact raiseFault_cfg _ s
  | cplFaulted => obtain ⟨-, rfl⟩ := execCplFaulted_next h; rfl
  | resetF p => exact absurd ⟨p, .inl rfl⟩ hi
  | resetA p => exact absurd ⟨p, .inr (.inl rfl)⟩ hi
  | resetT p => exact absurd ⟨p, .inr (.inr rfl)⟩ hi
  | resetReserved => exact absurd h (by simp [exec, execResetReserved])
  | queryInflight => rw [execQueryInflight_next h]

end Sys2Proof.Machine
end

section
/-!
The fields that each slot of a tick can change: one frame equation per slot.
-/

namespace Sys2Proof.Machine

theorem awSlot_frame (inp : Inputs) (s : State) :
    awSlot inp s = { s with awq := (awSlot inp s).awq, awready := (awSlot inp s).awready } := by
  unfold awSlot; split <;> rfl

theorem wSlot_frame (inp : Inputs) (s : State) :
    wSlot inp s = { s with wq := (wSlot inp s).wq, wready := (wSlot inp s).wready } := by
  unfold wSlot; split <;> rfl

theorem restAr_frame (s : State) : restAr s = { s with arready := (restAr s).arready } := by
  unfold restAr; split <;> rfl

theorem arSlot_frame (inp : Inputs) (s : State) :
    arSlot inp s =
      { s with
        arready := (arSlot inp s).arready, pq := (arSlot inp s).pq, pending := (arSlot inp s).pending
        oq := (arSlot inp s).oq, inflight := (arSlot inp s).inflight, events := (arSlot inp s).events
        draws := (arSlot inp s).draws } := by
  unfold arSlot
  split
  · split
    · rw [acceptF_frame]
    · rw [acceptA_frame]
    · rw [acceptT, registerBeats_frame]
  · rw [restAr_frame]

theorem pairSlot_frame (s : State) :
    pairSlot s =
      { s with
        awq := (pairSlot s).awq, wq := (pairSlot s).wq, bq := (pairSlot s).bq, mem := (pairSlot s).mem
        events := (pairSlot s).events, fault := (pairSlot s).fault } := by
  obtain ⟨-, h⟩ | ⟨e, es, w, ws, -, -, ⟨-, -, h⟩ | ⟨-, -, h⟩ | ⟨-, -, h⟩ | ⟨-, -, h⟩⟩ := pairSlot_cases s
  · rw [h]
  · rw [h, pairLast_frame]
  · rw [h]; rfl
  · rw [h]; rfl
  · rw [h, pairBeat_frame]

theorem drainSlot_frame (s : State) :
    drainSlot s =
      { s with
        pending := (drainSlot s).pending, oq := (drainSlot s).oq, inflight := (drainSlot s).inflight
        pq := (drainSlot s).pq, drained := (drainSlot s).drained } := by
  by_cases hm : s.cfg.mode = .timing
  · rw [drainSlot_timing hm]
    obtain h | ⟨a, as, e, es, -, -, -, ⟨-, h⟩ | ⟨-, h⟩⟩ := drainTiming_cases s <;> rw [h] <;> rfl
  · rw [(drain_arrdy_skip hm).1]

theorem arrdySlot_frame (s : State) : arrdySlot s = { s with arready := (arrdySlot s).arready } := by
  unfold arrdySlot
  split
  · rfl
  · rfl
  · split <;> rfl

/-- A shift moves the output and the latency register only (R120). -/
theorem shift_frame (x : ReadBeat) (s : State) :
    shift x s = { s with rout := (shift x s).rout, lq := (shift x s).lq } := by
  unfold shift; split <;> rfl

theorem rSlot_frame (inp : Inputs) (s : State) :
    rSlot inp s = { s with pq := (rSlot inp s).pq, rout := (rSlot inp s).rout, lq := (rSlot inp s).lq } := by
  obtain ⟨-, -, h⟩ | ⟨-, ⟨-, h⟩ | ⟨x, xs, -, h⟩⟩ := rSlot_cases inp s
  · rw [h]
  · rw [h, advanceFill, shift_frame]
  · rw [h, advanceWith, shift_frame]

theorem bSlot_frame (inp : Inputs) (s : State) :
    bSlot inp s =
      { s with bq := (bSlot inp s).bq, bvalid := (bSlot inp s).bvalid, bid := (bSlot inp s).bid } := by
  unfold bSlot; split <;> rfl

/-- In an unfaulted block, a faulted state after PAIR is the state before it with the fault raised, and nothing else changed
(R109, R110, R201). -/
theorem pairSlot_of_faulted {s : State} (hs : faulted s = false) (hf : faulted (pairSlot s) = true) :
    ∃ k, pairSlot s = raiseFault k s := by
  have hnone : s.fault = .none := by simpa [faulted] using hs
  obtain ⟨-, h⟩ | ⟨e, es, w, ws, -, -, ⟨-, -, h⟩ | ⟨-, -, h⟩ | ⟨-, -, h⟩ | ⟨-, -, h⟩⟩ := pairSlot_cases s
  · rw [h, hs] at hf; cases hf
  · rw [h, pairLast_frame] at hf; simp [faulted, hnone] at hf
  · exact ⟨_, h⟩
  · exact ⟨_, h⟩
  · rw [h, pairBeat_frame] at hf; simp [faulted, hnone] at hf

/-- In TIMING mode the AR slot registers the burst of a handshake, and an idle one changes nothing (R141, R165). -/
theorem arSlot_timing (inp : Inputs) {s : State} (hm : s.cfg.mode = .timing) :
    arSlot inp s = if inp.arvalid && s.arready then acceptT inp.ar s else s := by
  simp [arSlot, restAr, hm]

end Sys2Proof.Machine
end

section
/-!
What a step can be: the effect of the environment's step on the state that the fetch left.
-/

namespace Sys2Proof.Machine

variable {db : Nat} {i : Instr}

theorem decodeCycle_ok {icw : BitVec 6} {aw ar : BitVec 80} {w : Nat} (h : decodeCycle db icw aw w ar = .ok i) :
    i = .tick (unpackInputs db icw aw w ar) := by
  unfold decodeCycle at h
  split at h
  · cases h
  · split at h
    · cases h
    · cases h; rfl

theorem decodeCompletion_ok {mk : Addr → List Byte → Instr} {a : Addr} {bytes : List Byte}
    (h : decodeCompletion db mk (.completion a bytes) = .ok i) : i = mk a bytes := by
  simp only [decodeCompletion] at h
  split at h
  · cases h; rfl
  · cases h

/-- A decoded operation is the selected row's, with the operand attached (R84). -/
theorem decode_ok {c : Code} (h : decode db c = .ok i) :
    ∃ r, selectRow c.format c.osv = some r ∧ attachOperand db c.operand r.op = .ok i := by
  unfold decode at h
  split at h
  · cases h
  · split at h
    · cases h
    · split at h
      · cases h
      · next r hr => exact ⟨r, hr, h⟩

/-- A selected row is a row of the table, in the format that selected it (R84). -/
theorem selectRow_some {f : Format} {osv : Osv} {r : Row} (h : selectRow f osv = some r) : r ∈ rows ∧ r.format = f := by
  refine ⟨List.mem_of_find?_eq_some h, ?_⟩
  have hsel := List.find?_some h
  simp only [Row.selects, Bool.and_eq_true, decide_eq_true_eq] at hsel
  exact hsel.1

theorem op_of_gate : ∀ r ∈ rows, r.format = .gate → r.op = .tick ∨ r.op = .tickFaulted := by decide

theorem op_of_complete :
    ∀ r ∈ rows, r.format = .complete → r.op = .cplFill ∨ r.op = .cplUnexpected ∨ r.op = .cplFaulted := by decide

theorem op_of_reset :
    ∀ r ∈ rows, r.format = .reset → r.op = .resetF ∨ r.op = .resetA ∨ r.op = .resetT ∨ r.op = .resetReserved := by
  decide

theorem op_of_query : ∀ r ∈ rows, r.format = .query → r.op = .queryInflight := by decide

/-- What an environment step can make of the state `u` that its fetch left, on a bus of `db` bytes per beat (R161, R162,
R142, R143, R202, R220, R152). -/
inductive StepEffect (db : Nat) : Stimulus → State → State → Prop where
  | tick {icw aw w ar u} (hf : faulted u = false) :
      StepEffect db (.tick icw aw w ar) u (evaluate (unpackInputs db icw aw w ar) u)
  | tickFaulted {icw aw w ar u} (hf : faulted u = true) : StepEffect db (.tick icw aw w ar) u u
  | fill {a bytes u} (hf : faulted u = false) (hm : cplMatch u a = true) :
      StepEffect db (.complete a bytes) u (fillPending a bytes u)
  | unexpected {a bytes u} (hf : faulted u = false) (hm : cplMatch u a = false) :
      StepEffect db (.complete a bytes) u (raiseFault .unexpectedCompletion u)
  | completeFaulted {a bytes u} (hf : faulted u = true) : StepEffect db (.complete a bytes) u u
  | reset {m p u} (mode : Mode) (hl : p.legal = true) :
      StepEffect db (.reset m p) u (buildBlock { toParams := p, mode := mode } u)
  | query {u} : StepEffect db .query u { u with hostAnswer := some u.inflight }

/-- A RESET row's effect, whichever of the three it is (R220, R221). -/
theorem stepEffect_of_resetTo {m : BitVec 2} {mode : Mode} {p : Params} {u t : State} (h : resetTo mode p u = .next t) :
    StepEffect db (.reset m p) u t := by
  obtain ⟨hl, rfl⟩ := resetTo_next h
  exact .reset mode hl

/-- An environment step's code decodes to a row of the step's own format, and that row's meaning has the step's effect
(R84, R210). -/
theorem stepEffect_of_decode {x : Stimulus} {s u t : State} (hd : decode db (stimulusCode x s) = .ok i)
    (he : exec i u = .next t) : StepEffect db x u t := by
  obtain ⟨r, hr, ha⟩ := decode_ok hd
  obtain ⟨hmem, hfmt⟩ := selectRow_some hr
  cases x with
  | tick icw aw w ar =>
    obtain hop | hop := op_of_gate r hmem hfmt <;> simp only [hop, attachOperand, stimulusCode] at ha
    · cases decodeCycle_ok ha
      obtain ⟨hf, rfl⟩ := execTick_next he
      exact .tick hf
    · cases ha
      obtain ⟨hf, rfl⟩ := execTickFaulted_next he
      exact .tickFaulted hf
  | complete a bytes =>
    obtain hop | hop | hop := op_of_complete r hmem hfmt <;> simp only [hop, attachOperand, stimulusCode] at ha
    · cases decodeCompletion_ok ha
      obtain ⟨hf, hm, rfl⟩ := execCplFill_next he
      exact .fill hf hm
    · cases decodeCompletion_ok ha
      obtain ⟨hf, hm, rfl⟩ := execCplUnexpected_next he
      exact .unexpected hf hm
    · cases ha
      obtain ⟨hf, rfl⟩ := execCplFaulted_next he
      exact .completeFaulted hf
  | reset m p =>
    obtain hop | hop | hop | hop := op_of_reset r hmem hfmt <;> simp only [hop, attachOperand, stimulusCode] at ha <;>
      cases ha
    · exact stepEffect_of_resetTo he
    · exact stepEffect_of_resetTo he
    · exact stepEffect_of_resetTo he
    · cases he
  | query =>
    simp only [op_of_query r hmem hfmt, attachOperand] at ha
    cases ha
    rw [execQueryInflight_next he]
    exact .query

/-- All that a step can do: the effect of the next environment step on the fetched state. -/
theorem step_effect {s t : State} (h : step s = .next t) :
    StepEffect s.cfg.dataBytes (nextStimulus s) (fetchState s) t := by
  obtain ⟨i, hd, he⟩ := step_next h
  exact stepEffect_of_decode hd he

@[simp] theorem faulted_fetchState (s : State) : faulted (fetchState s) = faulted s := by
  rw [fetchState_frame]; rfl

/-- The code of an environment step does not read the environment's own fields. -/
theorem stimulusCode_environment (x : Stimulus) (s : State) (stim : List Stimulus) (draws : Nat) :
    stimulusCode x { s with stim := stim, draws := draws } = stimulusCode x s := by
  cases x <;> rfl

end Sys2Proof.Machine
end

section
/-!
The tracking table: each address is pending as often as the order queue lists it, and the count is the queue's length
(R40 items 2 and 3).
-/

namespace Sys2Proof.Machine

/-- R40 items 2 and 3, with the canonical form of the pending table that they are kept by. -/
structure TrackingInv (s : State) : Prop where
  matchesOrder : PendingMatchesOrder s
  counts : InflightCounts s
  canonical : pendingWf s.pending = true

variable {s t : State}

/-- What is pending at an address once one address's placeholders are replaced. -/
theorem pendingAt_of_setPending {a : Addr} {l : List ReadBeat} (h : pendingWf s.pending = true)
    (ht : t.pending = setPending s a l) (b : Addr) : pendingAt t b = if b = a then l else pendingAt s b := by
  unfold pendingAt
  rw [ht]
  split
  · next hb => rw [hb]; exact tableGet_tableSet_same h _ _
  · next hb => exact tableGet_tableSet_other h _ (addr_toNat_ne hb)

/-- A registered beat is one placeholder, one entry of the order queue and one more in flight (R141). -/
theorem registerBeat_trackingInv (id : Id) (b : Addr × Bool) (h : TrackingInv s) : TrackingInv (registerBeat id b s) where
  matchesOrder a := by
    have hord := h.matchesOrder a
    rw [pendingAt_of_setPending h.canonical rfl a, registerBeat_oq, List.count_append, List.count_singleton, ← hord]
    by_cases hb : a = b.1
    · simp [hb]
    · simp [hb, Ne.symm hb]
  counts := by
    have hcount : s.inflight = s.oq.length := h.counts
    simp [InflightCounts, hcount]
  canonical := setPending_wf h.canonical _ _

theorem registerBeats_trackingInv (id : Id) (bs : List (Addr × Bool)) (h : TrackingInv s) :
    TrackingInv (registerBeats id bs s) := by
  induction bs generalizing s with
  | nil => exact h
  | cons b bs ih => exact ih (registerBeat_trackingInv id b h)

/-- A released head leaves the order queue, the table and the count together (R144). -/
theorem releaseHead_trackingInv {a : Addr} {as : List Addr} {e : ReadBeat} {es : List ReadBeat} (ho : s.oq = a :: as)
    (hp : pendingAt s a = e :: es) (h : TrackingInv s) : TrackingInv (releaseHead a as e es s) where
  matchesOrder b := by
    have hord := h.matchesOrder b
    rw [ho, List.count_cons] at hord
    rw [pendingAt_of_setPending h.canonical rfl b, releaseHead_oq]
    by_cases hb : b = a
    · subst hb; simpa [hp] using hord
    · simpa [hb, Ne.symm hb] using hord
  counts := by
    have hcount : s.inflight = s.oq.length := h.counts
    simp [InflightCounts, hcount, ho]
  canonical := setPending_wf h.canonical _ _

/-- A fill changes no number of placeholders (R142). -/
theorem fillPending_trackingInv (a : Addr) (bytes : List Byte) (h : TrackingInv s) :
    TrackingInv (fillPending a bytes s) where
  matchesOrder b := by
    have hord := h.matchesOrder b
    rw [pendingAt_of_setPending h.canonical rfl b, fillPending_oq, ← hord]
    split
    · next hb => rw [fillOldest_length, hb]
    · rfl
  counts := h.counts
  canonical := setPending_wf h.canonical _ _

/-- A fill needs a placeholder, so none happens while the table is empty (R143). -/
theorem cplMatch_eq_false_of_pending_nil {a : Addr} (h : s.pending = []) : cplMatch s a = false := by
  simp [cplMatch, pendingAt, h, tableGet, hasInvalid]

/-- The AR slot changes the tracking table in TIMING mode only, by registering a burst (R141). -/
theorem arSlot_trackingInv (inp : Inputs) (h : TrackingInv s) : TrackingInv (arSlot inp s) := by
  unfold arSlot
  split
  · split
    · exact ⟨h.matchesOrder, h.counts, h.canonical⟩
    · rw [acceptA_frame]; exact ⟨h.matchesOrder, h.counts, h.canonical⟩
    · exact registerBeats_trackingInv _ _ h
  · rw [restAr_frame]; exact ⟨h.matchesOrder, h.counts, h.canonical⟩

theorem drainSlot_trackingInv (h : TrackingInv s) : TrackingInv (drainSlot s) := by
  by_cases hm : s.cfg.mode = .timing
  · rw [drainSlot_timing hm]
    obtain hd | ⟨a, as, e, es, ho, hp, -, ⟨-, hd⟩ | ⟨-, hd⟩⟩ := drainTiming_cases s <;> rw [hd]
    · exact ⟨h.matchesOrder, h.counts, h.canonical⟩
    · exact releaseHead_trackingInv ho hp h
    · obtain ⟨hmatch, hcount, hwf⟩ := releaseHead_trackingInv ho hp h
      exact ⟨hmatch, hcount, hwf⟩
  · rw [(drain_arrdy_skip hm).1]; exact h

end Sys2Proof.Machine
end

section
/-!
The invariants that hold between any two slots of a tick.
-/

namespace Sys2Proof.Machine

/-- The invariants that every single slot keeps. The others of `Inv` are of the tick: B presents its queue's head once the B
slot has run, and ARREADY follows the window once the ARRDY slot has run. -/
structure SlotInv (s : State) : Prop where
  latencyDepth : LatencyDepth s
  tracking : TrackingInv s
  burstsBounded : BurstsBounded s
  wreadyHigh : WreadyHigh s
  memory : Memory.wf s.mem = true

variable {s : State}

theorem Inv.slotInv (h : Inv s) : SlotInv s where
  latencyDepth := h.latencyDepth
  tracking := ⟨h.pendingMatchesOrder, h.inflightCounts, h.canonical.2⟩
  burstsBounded := h.burstsBounded
  wreadyHigh := h.wreadyHigh
  memory := h.canonical.1

/-- A captured burst has at most `2^LEN_W - 1` beats after its first (R102). -/
theorem awSlot_burstsBounded (inp : Inputs) (h : BurstsBounded s) : BurstsBounded (awSlot inp s) := by
  unfold awSlot
  split
  · intro e he
    rw [captureAw_awq, List.mem_append, List.mem_singleton] at he
    obtain he | rfl := he
    · exact h e he
    · exact Nat.le_sub_one_of_lt inp.aw.len.isLt
  · exact h

theorem wSlot_wreadyHigh (inp : Inputs) (s : State) : WreadyHigh (wSlot inp s) := by
  unfold wSlot WreadyHigh; split <;> rfl

/-- A pairing takes the head's burst off or counts it down (R107, R108). -/
theorem pairSlot_burstsBounded (h : BurstsBounded s) : BurstsBounded (pairSlot s) := by
  obtain ⟨-, hp⟩ | ⟨e, es, w, ws, ha, -, ⟨-, -, hp⟩ | ⟨-, -, hp⟩ | ⟨-, -, hp⟩ | ⟨-, -, hp⟩⟩ := pairSlot_cases s <;>
    rw [hp]
  · exact h
  · exact fun e' he' => h e' (ha ▸ List.mem_cons_of_mem e he')
  · exact h
  · exact h
  · intro e' he'
    obtain rfl | he' := List.mem_cons.1 he'
    · exact (Nat.sub_le _ 1).trans (h e (ha ▸ List.mem_cons_self))
    · exact h e' (ha ▸ List.mem_cons_of_mem e he')

theorem pairSlot_mem_wf (h : Memory.wf s.mem = true) : Memory.wf (pairSlot s).mem = true := by
  obtain ⟨-, hp⟩ | ⟨e, es, w, ws, -, -, ⟨-, -, hp⟩ | ⟨-, -, hp⟩ | ⟨-, -, hp⟩ | ⟨-, -, hp⟩⟩ := pairSlot_cases s <;>
    rw [hp]
  · exact h
  · exact applyBeat_wf e.addr w h
  · exact h
  · exact h
  · exact applyBeat_wf e.addr w h

theorem rSlot_latencyDepth (inp : Inputs) (h : LatencyDepth s) : LatencyDepth (rSlot inp s) := by
  obtain ⟨-, -, hr⟩ | ⟨-, ⟨-, hr⟩ | ⟨x, xs, -, hr⟩⟩ := rSlot_cases inp s <;> rw [hr]
  · exact h
  · simpa [LatencyDepth, advanceFill, shift_depth] using h
  · simpa [LatencyDepth, advanceWith, shift_depth] using h

theorem awSlot_slotInv (inp : Inputs) (h : SlotInv s) : SlotInv (awSlot inp s) := by
  rw [awSlot_frame]
  exact { h with tracking := { h.tracking with }, burstsBounded := awSlot_burstsBounded inp h.burstsBounded }

theorem wSlot_slotInv (inp : Inputs) (h : SlotInv s) : SlotInv (wSlot inp s) := by
  rw [wSlot_frame]
  exact { h with tracking := { h.tracking with }, wreadyHigh := wSlot_wreadyHigh inp s }

theorem arSlot_slotInv (inp : Inputs) (h : SlotInv s) : SlotInv (arSlot inp s) := by
  have htracking := arSlot_trackingInv inp h.tracking
  rw [arSlot_frame] at htracking ⊢
  exact { h with tracking := htracking }

theorem pairSlot_slotInv (h : SlotInv s) : SlotInv (pairSlot s) := by
  rw [pairSlot_frame]
  exact { h with
    tracking := { h.tracking with }
    burstsBounded := pairSlot_burstsBounded h.burstsBounded
    memory := pairSlot_mem_wf h.memory }

theorem drainSlot_slotInv (h : SlotInv s) : SlotInv (drainSlot s) := by
  have htracking := drainSlot_trackingInv h.tracking
  rw [drainSlot_frame] at htracking ⊢
  exact { h with tracking := htracking }

theorem arrdySlot_slotInv (h : SlotInv s) : SlotInv (arrdySlot s) := by
  rw [arrdySlot_frame]
  exact { h with tracking := { h.tracking with } }

theorem rSlot_slotInv (inp : Inputs) (h : SlotInv s) : SlotInv (rSlot inp s) := by
  have hdepth := rSlot_latencyDepth inp h.latencyDepth
  rw [rSlot_frame] at hdepth ⊢
  exact { h with tracking := { h.tracking with }, latencyDepth := hdepth }

theorem bSlot_slotInv (inp : Inputs) (h : SlotInv s) : SlotInv (bSlot inp s) := by
  rw [bSlot_frame]
  exact { h with tracking := { h.tracking with } }

theorem evaluateFront_slotInv (inp : Inputs) (h : SlotInv s) : SlotInv (evaluateFront inp s) :=
  pairSlot_slotInv (arSlot_slotInv inp (wSlot_slotInv inp (awSlot_slotInv inp h)))

theorem evaluateBack_slotInv (inp : Inputs) (h : SlotInv s) : SlotInv (evaluateBack inp s) :=
  bSlot_slotInv inp (rSlot_slotInv inp (arrdySlot_slotInv (drainSlot_slotInv h)))

/-- A tick keeps what its slots keep, whether PAIR ends it or not (R161, R201). -/
theorem evaluate_slotInv (inp : Inputs) (h : SlotInv s) : SlotInv (evaluate inp s) := by
  unfold evaluate
  split
  · exact evaluateFront_slotInv inp h
  · exact evaluateBack_slotInv inp (evaluateFront_slotInv inp h)

end Sys2Proof.Machine
end

section
/-!
The two invariants that a tick breaks and restores: the in-flight window (R154) and the presented response (R35).
-/

namespace Sys2Proof.Machine

/-- The in-flight count within the window, in TIMING mode (R154): `WindowBounded` without what ARREADY says of the room that
is left, which is stale from the AR slot to the ARRDY slot. -/
def CountBounded (s : State) : Prop :=
  s.cfg.mode = .timing →
    (1 ≤ s.cfg.wEff → s.inflight ≤ s.cfg.wEff - 1 + 2 ^ 8) ∧ (s.cfg.wEff = 0 → s.inflight = 0 ∧ s.arready = false)

variable {s t : State}

/-- `CountBounded` reads the configuration, the count and ARREADY only, and holds of no larger count. -/
theorem CountBounded.of_le (h : CountBounded s) (hcfg : t.cfg = s.cfg) (hle : t.inflight ≤ s.inflight)
    (hready : t.arready = s.arready) : CountBounded t := by
  intro hm
  rw [hcfg] at hm ⊢
  obtain ⟨hcount, hzero⟩ := h hm
  refine ⟨fun h1 => hle.trans (hcount h1), fun h0 => ?_⟩
  obtain ⟨hnone, hnotready⟩ := hzero h0
  exact ⟨by omega, hready.trans hnotready⟩

theorem registerBeats_inflight (id : Id) (bs : List (Addr × Bool)) (s : State) :
    (registerBeats id bs s).inflight = s.inflight + bs.length := by
  induction bs generalizing s with
  | nil => rfl
  | cons b bs ih => rw [registerBeats, ih, registerBeat_inflight, List.length_cons]; omega

/-- A registered burst has at most `2^LEN_W` beats (R100, R141). -/
theorem acceptT_inflight_le (p : AddrReq) (s : State) : (acceptT p s).inflight ≤ s.inflight + 2 ^ 8 := by
  rw [acceptT, registerBeats_inflight, burstOf_length]
  have := p.len.isLt
  omega

/-- The AR slot accepts a burst only while the window has room for one beat more (R154). -/
theorem arSlot_countBounded (inp : Inputs) (hf : s.fault = .none) (h : WindowBounded s) :
    CountBounded (arSlot inp s) := by
  intro hm
  rw [(arSlot_slotFrame inp s).cfg] at hm ⊢
  obtain ⟨hroom, hcount, hzero⟩ := h hm
  rw [arSlot_timing inp hm]
  split
  · next hacc =>
    have hlt : s.inflight < s.cfg.wEff := hroom hf (Bool.and_eq_true_iff.1 hacc).2
    have hle := acceptT_inflight_le inp.ar s
    exact ⟨fun _ => by omega, fun h0 => by omega⟩
  · exact ⟨hcount, hzero⟩

theorem drainSlot_inflight_le (s : State) : (drainSlot s).inflight ≤ s.inflight := by
  by_cases hm : s.cfg.mode = .timing
  · rw [drainSlot_timing hm]
    obtain h | ⟨a, as, e, es, -, -, -, ⟨-, h⟩ | ⟨-, h⟩⟩ := drainTiming_cases s <;> rw [h] <;> simp
  · rw [(drain_arrdy_skip hm).1]

/-- The ARRDY slot makes ARREADY tell the room that is left, whatever it was (R148 to R150). -/
theorem arrdySlot_windowBounded (h : CountBounded s) : WindowBounded (arrdySlot s) := by
  intro hm
  rw [(arrdySlot_slotFrame s).cfg] at hm ⊢
  obtain ⟨hcount, hzero⟩ := h hm
  simp only [arrdySlot, hm]
  split
  · exact ⟨by simp, hcount, fun h0 => ⟨(hzero h0).1, rfl⟩⟩
  · exact ⟨by simp [winOk], hcount, fun h0 => ⟨(hzero h0).1, by simp [winOk, h0]⟩⟩

theorem evaluateFront_countBounded (inp : Inputs) (hf : s.fault = .none) (h : WindowBounded s) :
    CountBounded (evaluateFront inp s) := by
  have hw : WindowBounded (wSlot inp (awSlot inp s)) := by rw [wSlot_frame, awSlot_frame]; exact h
  have hnone : (wSlot inp (awSlot inp s)).fault = .none := by rw [wSlot_frame, awSlot_frame]; exact hf
  have hcount := arSlot_countBounded inp hnone hw
  rw [evaluateFront, pairSlot_frame]
  exact hcount

theorem evaluateBack_windowBounded (inp : Inputs) (h : CountBounded s) : WindowBounded (evaluateBack inp s) := by
  have hdrain : CountBounded (drainSlot s) :=
    h.of_le (drainSlot_slotFrame s).cfg (drainSlot_inflight_le s) (by rw [drainSlot_frame])
  have hready := arrdySlot_windowBounded hdrain
  rw [evaluateBack, bSlot_frame, rSlot_frame]
  exact hready

/-- A tick keeps the window bound; one that PAIR ends leaves ARREADY stale, in a faulted block (R154, R201). -/
theorem evaluate_windowBounded (inp : Inputs) (hf : faulted s = false) (h : WindowBounded s) :
    WindowBounded (evaluate inp s) := by
  have hcount := evaluateFront_countBounded inp (by simpa [faulted] using hf) h
  unfold evaluate
  split
  · next hfront =>
    intro hm
    have hne : (evaluateFront inp s).fault ≠ .none := by simpa [faulted] using hfront
    exact ⟨fun hnone => absurd hnone hne, hcount hm⟩
  · exact evaluateBack_windowBounded inp hcount

/-- Each of the B slot's choices presents the head of the queue that it leaves (R167 to R169). -/
theorem bSlot_responsePresented (inp : Inputs) (s : State) : ResponsePresented (bSlot inp s) := by
  unfold bSlot
  split
  · exact ⟨rfl, rfl⟩
  · exact ⟨rfl, rfl⟩

/-- A tick that PAIR ends has queued no response, and any other ends with its B slot (R35, R201). -/
theorem evaluate_responsePresented (inp : Inputs) (hf : faulted s = false) (h : ResponsePresented s) :
    ResponsePresented (evaluate inp s) := by
  unfold evaluate
  split
  · next hfront =>
    have hnone : faulted (arSlot inp (wSlot inp (awSlot inp s))) = false := by
      rw [arSlot_frame, wSlot_frame, awSlot_frame]; exact hf
    obtain ⟨k, hpair⟩ := pairSlot_of_faulted hnone hfront
    rw [evaluateFront, hpair, arSlot_frame, wSlot_frame, awSlot_frame]
    exact h
  · exact bSlot_responsePresented inp _

end Sys2Proof.Machine
end

section
/-!
What a step executes, the invariants at reset and over every step, and the sticky fault.
-/

namespace Sys2Proof.Machine

variable {s : State}

theorem buildBlock_inv (c : Config) (s : State) (hl : c.legal = true) : Inv (buildBlock c s) where
  configLegal := hl
  latencyDepth := List.length_replicate
  pendingMatchesOrder _ := rfl
  inflightCounts := rfl
  tableIdle _ := ⟨rfl, rfl, rfl⟩
  responsePresented := ⟨rfl, rfl⟩
  burstsBounded _ he := absurd he List.not_mem_nil
  wreadyHigh := rfl
  canonical := ⟨buildBlock_mem_wf c s, rfl⟩
  windowBounded hm := by
    have hready : (buildBlock c s).arready = decide (1 ≤ c.wEff) := by
      have hmode : c.mode = .timing := hm
      simp [buildBlock, resetArready, hmode]
    refine ⟨fun _ h => ?_, fun _ => Nat.zero_le _, fun h0 => ⟨rfl, ?_⟩⟩
    · rw [hready] at h; exact of_decide_eq_true h
    · have hzero : c.wEff = 0 := h0
      simp [hready, hzero]
  functionalSilent _ := rfl

/-- The reset state is the block that RESET_F builds from C0 (R220, log 4). -/
theorem reset_eq_buildBlock :
    State.reset = buildBlock { toParams := Params.example, mode := .functional } State.reset := by decide

/-- Taking an environment step keeps the invariants, which read nothing of the environment's. -/
theorem fetchState_inv (h : Inv s) : Inv (fetchState s) := by
  rw [fetchState_frame]
  exact { h with }

/-- A tick of an unfaulted block keeps the invariants (R40). -/
theorem evaluate_inv (inp : Inputs) (hf : faulted s = false) (h : Inv s) : Inv (evaluate inp s) := by
  have hframe := evaluate_slotFrame inp s
  have hslots := evaluate_slotInv inp h.slotInv
  exact {
    configLegal := by rw [ConfigLegal, hframe.cfg]; exact h.configLegal
    latencyDepth := hslots.latencyDepth
    pendingMatchesOrder := hslots.tracking.matchesOrder
    inflightCounts := hslots.tracking.counts
    tableIdle := fun hm => by
      rw [hframe.cfg] at hm
      obtain ⟨hoq, hpending, hinflight, -⟩ := hframe.table hm
      rw [hoq, hpending, hinflight]
      exact h.tableIdle hm
    responsePresented := evaluate_responsePresented inp hf h.responsePresented
    burstsBounded := hslots.burstsBounded
    wreadyHigh := hslots.wreadyHigh
    canonical := ⟨hslots.memory, hslots.tracking.canonical⟩
    windowBounded := evaluate_windowBounded inp hf h.windowBounded
    functionalSilent := fun hm => by
      rw [hframe.cfg] at hm
      rw [hframe.events hm]
      exact h.functionalSilent hm }

/-- A fill keeps the invariants: outside TIMING mode no address has a placeholder to fill (R142). -/
theorem fillPending_inv {a : Addr} (bytes : List Byte) (hmatch : cplMatch s a = true) (h : Inv s) :
    Inv (fillPending a bytes s) := by
  have htracking := fillPending_trackingInv a bytes h.slotInv.tracking
  exact { h with
    pendingMatchesOrder := htracking.matchesOrder
    inflightCounts := htracking.counts
    canonical := ⟨h.canonical.1, htracking.canonical⟩
    tableIdle := fun hm => by
      obtain ⟨-, hpending, -⟩ := h.tableIdle hm
      rw [cplMatch_eq_false_of_pending_nil hpending] at hmatch
      cases hmatch }

/-- Raising a fault keeps the invariants: only the window bound reads the fault register, and of an unfaulted block. -/
theorem raiseFault_inv {k : FaultKind} (hk : k ≠ .none) (h : Inv s) : Inv (raiseFault k s) :=
  { h with windowBounded := fun hm => ⟨fun hnone => absurd hnone hk, (h.windowBounded hm).2⟩ }

/-- Settles O54, by the effects that a step can have on the fetched state. -/
theorem everyStepKeepsTheInvariants : Obligations.EveryStepKeepsTheInvariants := by
  intro s t hs hstep
  have hfetch := fetchState_inv hs
  have heffect := step_effect hstep
  generalize nextStimulus s = x at heffect
  generalize fetchState s = u at hfetch heffect
  cases heffect with
  | tick hf => exact evaluate_inv _ hf hfetch
  | tickFaulted _ | completeFaulted _ => exact hfetch
  | fill _ hmatch => exact fillPending_inv _ hmatch hfetch
  | unexpected _ _ => exact raiseFault_inv (by decide) hfetch
  | reset _ hl => exact buildBlock_inv _ u hl
  | query => exact { hfetch with }

/-- Settles O51: of a step's effects, those that a faulted block can have change only what the fetch and the host own, and a
RESET is excluded by hypothesis. -/
theorem faultIsSticky : Obligations.FaultIsSticky := by
  intro s t hfault hstep hreset
  have hf : faulted (fetchState s) = true := by rw [faulted_fetchState]; simpa [faulted] using hfault
  have heffect := step_effect hstep
  have hframe := fetchState_frame s
  generalize nextStimulus s = x at hreset heffect
  generalize fetchState s = u at hf hframe heffect
  cases heffect with
  | tick hn | fill hn _ | unexpected hn _ => rw [hn] at hf; cases hf
  | tickFaulted _ | completeFaulted _ | query => rw [hframe]
  | reset _ _ => exact absurd rfl (hreset _ _)

/-- Settles O6: the step placed is the one that the fetch takes, and its code does not read the environment's own
fields. -/
theorem stepRunsTheDecodedOperation : Obligations.StepRunsTheDecodedOperation := by
  intro s
  constructor
  · intro i x xs hstim hd
    have hnext : nextStimulus s = x := by simp [nextStimulus, hstim]
    have htake : takeStimulus s = { s with stim := xs } := by simp [takeStimulus, hstim]
    simp only [step, fetchCode, fetchState, hnext, htake, hd]
  · intro hstim
    have hnext : nextStimulus s = Config.environment s.draws := by simp [nextStimulus, hstim]
    have htake : takeStimulus s = { s with stim := [], draws := s.draws + 1 } := by rw [takeStimulus, hstim]
    simp only [step, fetchCode, fetchState, hnext, htake]
    simp only [nextStimulus, takeStimulus, stimulusCode_environment]

/-- Settles O53: the reset state is itself a block that a legal RESET builds. -/
theorem invariantsHoldAtReset : Obligations.InvariantsHoldAtReset := by
  refine ⟨?_, buildBlock_inv⟩
  rw [reset_eq_buildBlock]
  exact buildBlock_inv _ _ (by decide)

end Sys2Proof.Machine
end

section
/-!
The Block Store as a table, and the operand forms: alignment, lanes and words.
-/

namespace Sys2Proof.Machine

/-- The canonical form of a table with a first entry. -/
theorem tableWf_cons {β : Type} [DecidableEq β] {hi lo k : Nat} {d v : β} {m : List (Nat × β)} :
    tableWf hi d lo ((k, v) :: m) = true ↔ lo ≤ k ∧ k < hi ∧ v ≠ d ∧ tableWf hi d (k + 1) m = true := by
  simp [tableWf, and_assoc]

/-- Two canonical tables that hold the same at every key within the bound are one table. -/
theorem table_ext {β : Type} [DecidableEq β] {hi lo : Nat} {d : β} {m m' : List (Nat × β)}
    (h : tableWf hi d lo m = true) (h' : tableWf hi d lo m' = true)
    (heq : ∀ a < hi, tableGet d m a = tableGet d m' a) : m = m' := by
  induction m generalizing lo m' with
  | nil =>
    cases m' with
    | nil => rfl
    | cons kv' m' =>
      obtain ⟨k', v'⟩ := kv'
      obtain ⟨-, hk', hv', -⟩ := tableWf_cons.1 h'
      exact absurd (heq k' hk').symm (by simpa [tableGet] using hv')
  | cons kv m ih =>
    obtain ⟨k, v⟩ := kv
    obtain ⟨-, hk, hv, hm⟩ := tableWf_cons.1 h
    cases m' with
    | nil => exact absurd (heq k hk) (by simpa [tableGet] using hv)
    | cons kv' m' =>
      obtain ⟨k', v'⟩ := kv'
      obtain ⟨-, hk', hv', hm'⟩ := tableWf_cons.1 h'
      have below {a : Nat} (ha : a < k + 1) : tableGet d m a = d := tableGet_below hm ha
      have below' {a : Nat} (ha : a < k' + 1) : tableGet d m' a = d := tableGet_below hm' ha
      have hatk := heq k hk
      have hatk' := heq k' hk'
      obtain hlt | rfl | hgt := Nat.lt_trichotomy k k'
      · simp [tableGet, hlt.ne, below' (Nat.lt_succ_of_lt hlt), hv] at hatk
      · obtain rfl : v = v' := by simpa [tableGet] using hatk
        rw [ih hm hm' fun a ha => ?_]
        by_cases hak : a = k
        · rw [hak, below k.lt_succ_self, below' k.lt_succ_self]
        · simpa [tableGet, hak] using heq a ha
      · simp [tableGet, hgt.ne, below (Nat.lt_succ_of_lt hgt), Ne.symm hv'] at hatk'

/-- Settles O17: every key within the bound is some address. -/
theorem canonicalMemoryIsUnique : Obligations.CanonicalMemoryIsUnique := by
  intro m m' h h' heq
  refine table_ext h h' fun a ha => ?_
  have hkey : (BitVec.ofNat 64 a).toNat = a := by rw [BitVec.toNat_ofNat, Nat.mod_eq_of_lt ha]
  have hread := heq (BitVec.ofNat 64 a)
  rwa [readByte, readByte, hkey] at hread

/-- A written byte reads back (R51). -/
theorem readByte_writeByte_same {m : List Host.Cell} (h : Memory.wf m = true) (a : Addr) (v : Byte) :
    readByte (writeByte m a v) a = v :=
  tableGet_tableSet_same h a.toNat v

/-- A byte write changes no other address (R51). -/
theorem readByte_writeByte_other {m : List Host.Cell} (h : Memory.wf m = true) {a b : Addr} (v : Byte) (hb : b ≠ a) :
    readByte (writeByte m a v) b = readByte m b :=
  tableGet_tableSet_other h v (addr_toNat_ne hb)

/-- Settles O16, by the laws of the canonical tables. -/
theorem blockStoreReadAfterWrite : Obligations.BlockStoreReadAfterWrite := by
  intro m a v h
  exact ⟨readByte_writeByte_same h a v, fun b hb => readByte_writeByte_other h v hb, writeByte_wf h a v, rfl⟩

/-- Settles O18: what alignment leaves of `a` is `2^k * (a / 2^k)`. -/
theorem alignClearsTheLowBits : Obligations.AlignClearsTheLowBits := by
  intro k a j
  have hbit : (a.toNat - a.toNat % 2 ^ k).testBit j = (decide (k ≤ j) && a.getLsbD j) := by
    rw [← Nat.mul_div_self_eq_mod_sub_self, Nat.testBit_two_pow_mul, Nat.testBit_div_two_pow, BitVec.testBit_toNat]
    by_cases hkj : k ≤ j <;> simp [hkj]
  rw [align, BitVec.getLsbD_ofNat, hbit]
  by_cases hj : j < 64
  · simp [hj]
  · simp [hj, BitVec.getLsbD_of_ge a j (Nat.le_of_not_lt hj)]

/-- A lane, as a number: a digit of its word in base 256 (R56). -/
theorem lane_toNat (d : List DataWord) (i : Nat) :
    (lane d i).toNat = (d.getD (i / 4) 0).toNat / 2 ^ (8 * (i % 4)) % 2 ^ 8 := by
  rw [lane, BitVec.extractLsb'_toNat, Nat.shiftRight_eq_div_pow]

/-- A packed word, as a number: its four bytes are its digits in base 256 (R56). -/
theorem packWord_toNat (bs : List Byte) (w : Nat) :
    (packWord bs w).toNat = (bs.getD (4 * w) 0).toNat + 2 ^ 8 * (bs.getD (4 * w + 1) 0).toNat +
      2 ^ 16 * (bs.getD (4 * w + 2) 0).toNat + 2 ^ 24 * (bs.getD (4 * w + 3) 0).toNat := by
  unfold packWord
  generalize bs.getD (4 * w) 0 = b0
  generalize bs.getD (4 * w + 1) 0 = b1
  generalize bs.getD (4 * w + 2) 0 = b2
  generalize bs.getD (4 * w + 3) 0 = b3
  have h0 := b0.isLt
  have h1 := b1.isLt
  have h2 := b2.isLt
  have h3 := b3.isLt
  have hshift (b : Byte) (k : Nat) (hk : k ≤ 24) : (b.setWidth 32 <<< k).toNat = 2 ^ k * b.toNat := by
    have hb := b.isLt
    have hle : 2 ^ k * b.toNat ≤ 2 ^ 24 * b.toNat := Nat.mul_le_mul_right _ (Nat.pow_le_pow_right (by omega) hk)
    rw [BitVec.toNat_shiftLeft, BitVec.toNat_setWidth, Nat.shiftLeft_eq, Nat.mod_eq_of_lt (a := b.toNat) (by omega),
      Nat.mul_comm, Nat.mod_eq_of_lt (by omega)]
  rw [BitVec.toNat_or, BitVec.toNat_or, BitVec.toNat_or, hshift b1 8 (by omega), hshift b2 16 (by omega),
    hshift b3 24 (by omega), BitVec.toNat_setWidth, Nat.mod_eq_of_lt (a := b0.toNat) (by omega),
    Nat.or_comm b0.toNat, ← Nat.two_pow_add_eq_or_of_lt h0,
    Nat.or_comm _ (2 ^ 16 * _), ← Nat.two_pow_add_eq_or_of_lt (by omega),
    Nat.or_comm _ (2 ^ 24 * _), ← Nat.two_pow_add_eq_or_of_lt (by omega)]
  omega

@[simp] theorem pack_length (bs : List Byte) : (pack bs).length = bs.length / 4 := by simp [pack]

theorem pack_getElem? {bs : List Byte} {w : Nat} (hw : w < bs.length / 4) : (pack bs)[w]? = some (packWord bs w) := by
  simp [pack, hw]

/-- Lane `i` of packed bytes is byte `i`, as far as the bytes fill words (R56). -/
theorem lane_pack {bs : List Byte} {i : Nat} (hi : i / 4 < bs.length / 4) : lane (pack bs) i = bs.getD i 0 := by
  refine BitVec.eq_of_toNat_eq ?_
  have hbyte (j : Nat) : (bs.getD j 0).toNat < 2 ^ 8 := (bs.getD j 0).isLt
  have h0 := hbyte (4 * (i / 4))
  have h1 := hbyte (4 * (i / 4) + 1)
  have h2 := hbyte (4 * (i / 4) + 2)
  have h3 := hbyte (4 * (i / 4) + 3)
  rw [lane_toNat, List.getD_eq_getElem?_getD, pack_getElem? hi, Option.getD_some, packWord_toNat]
  have hdiv : i = 4 * (i / 4) + i % 4 := (Nat.div_add_mod i 4).symm
  generalize i / 4 = w at *
  have hmod : i % 4 = 0 ∨ i % 4 = 1 ∨ i % 4 = 2 ∨ i % 4 = 3 := by omega
  obtain hm | hm | hm | hm := hmod <;> simp only [hm, Nat.mul_zero, Nat.add_zero] at hdiv ⊢ <;> rw [hdiv] <;> omega

/-- A word packed from its own four lanes (R56). -/
theorem packWord_lanes {d : List DataWord} {w : Nat} (hw : w < d.length) :
    packWord ((List.range (4 * d.length)).map (lane d)) w = d[w] := by
  refine BitVec.eq_of_toNat_eq ?_
  have hword := d[w].isLt
  have hlane (j : Nat) (hj : j < 4) :
      (((List.range (4 * d.length)).map (lane d)).getD (4 * w + j) 0).toNat = d[w].toNat / 2 ^ (8 * j) % 2 ^ 8 := by
    have hlt : 4 * w + j < 4 * d.length := by omega
    have hdiv : (4 * w + j) / 4 = w := by omega
    have hmod : (4 * w + j) % 4 = j := by omega
    simp only [List.getD_eq_getElem?_getD, List.getElem?_map, List.getElem?_range hlt, Option.map_some, Option.getD_some,
      lane_toNat, hdiv, hmod, List.getElem?_eq_getElem hw]
  rw [packWord_toNat, hlane 1 (by omega), hlane 2 (by omega), hlane 3 (by omega), ← Nat.add_zero (4 * w),
    hlane 0 (by omega)]
  omega

/-- Settles O20, from the digits of lanes and words. -/
theorem packIsTheInverseOfLanes : Obligations.PackIsTheInverseOfLanes := by
  refine ⟨fun d i => ?_, fun bs => ⟨pack_length bs, fun w hw => ?_⟩, fun bs hbs i hi => ?_, fun d => ?_⟩
  · refine BitVec.eq_of_toNat_eq ?_
    rw [lane_toNat, BitVec.toNat_setWidth, BitVec.toNat_ushiftRight, Nat.shiftRight_eq_div_pow]
  · rw [pack_getElem? hw, ← packWord_toNat, BitVec.ofNat_toNat, BitVec.setWidth_eq]
  · rw [lane_pack (by omega), List.getD_eq_getElem?_getD, List.getElem?_eq_getElem hi, Option.getD_some]
  · refine List.ext_getElem (by simp) fun w hw hw' => ?_
    simp only [pack, List.getElem_map, List.getElem_range]
    exact packWord_lanes hw'

end Sys2Proof.Machine
end

section
/-!
What a written data beat does: the bytes of its strobed lanes, and the requests that these make to the backend.
-/

namespace Sys2Proof.Machine

/-- The request that one written lane makes to the backend (R57): none in FUNCTIONAL mode. -/
def laneEvent (m : Mode) (a : Addr) (v : Byte) : List BackendEvent :=
  match m with
  | .functional => []
  | .atomic => [.write a v false]
  | .timing => [.write a v true]

/-- The requests that the strobed ones of the lanes `is` make, in the order given (R57, R106). -/
def lanesEvents (m : Mode) (a : Addr) (w : WBeat) (is : List Nat) : List BackendEvent :=
  (is.filter fun i => w.strb.getD i false).flatMap fun i => laneEvent m (addrAdd a i) (lane w.data i)

theorem lanesEvents_cons (m : Mode) (a : Addr) (w : WBeat) (i : Nat) (is : List Nat) :
    lanesEvents m a w (i :: is) =
      (if w.strb.getD i false then laneEvent m (addrAdd a i) (lane w.data i) else []) ++ lanesEvents m a w is := by
  unfold lanesEvents
  rw [List.filter_cons]
  split <;> simp

theorem laneWrites_eq (m : Mode) (db : Nat) (a : Addr) (w : WBeat) :
    laneWrites m db a w = lanesEvents m a w (List.range db) := by
  cases m with
  | functional => simp [laneWrites, lanesEvents, laneEvent]
  | atomic | timing => exact List.map_eq_flatMap

variable {s : State}

theorem writeLane_events (a : Addr) (v : Byte) (s : State) :
    (writeLane a v s).events = s.events ++ laneEvent s.cfg.mode a v := by
  unfold writeLane laneEvent
  cases s.cfg.mode <;> simp

/-- Written lanes make their requests in lane order, whatever the Block Store holds (R57). -/
theorem applyLanes_events (a : Addr) (w : WBeat) (is : List Nat) (s : State) :
    (applyLanes a w is s).events = s.events ++ lanesEvents s.cfg.mode a w is := by
  induction is generalizing s with
  | nil => simp [applyLanes, lanesEvents]
  | cons i is ih =>
    rw [applyLanes, ih, lanesEvents_cons]
    split
    · rw [writeLane_events, writeLane_cfg, List.append_assoc]
    · rfl

/-- A data beat makes one request per strobed lane, in lane order (R57, R106). -/
theorem applyBeat_events (a : Addr) (w : WBeat) (s : State) :
    (applyBeat a w s).events = s.events ++ laneWrites s.cfg.mode s.cfg.dataBytes a w := by
  rw [laneWrites_eq]
  exact applyLanes_events a w _ s

/-- A byte that no strobed lane stands at keeps its value (R106, R113). -/
theorem readByte_applyLanes_other {a b : Addr} {w : WBeat} {is : List Nat} (h : Memory.wf s.mem = true)
    (hb : ∀ i ∈ is, w.strb.getD i false = true → b ≠ addrAdd a i) :
    readByte (applyLanes a w is s).mem b = readByte s.mem b := by
  induction is generalizing s with
  | nil => rfl
  | cons i is ih =>
    have hrest := fun j hj => hb j (List.mem_cons_of_mem i hj)
    rw [applyLanes]
    split
    · next hi =>
      rw [ih (writeLane_wf h _ _) hrest, writeLane_mem]
      exact readByte_writeByte_other h _ (hb i List.mem_cons_self hi)
    · exact ih h hrest

/-- A strobed lane's byte is written, where no two lanes share an address (R106). -/
theorem readByte_applyLanes_lane {a : Addr} {w : WBeat} {is : List Nat} {i : Nat} (h : Memory.wf s.mem = true)
    (hnodup : (is.map (addrAdd a)).Nodup) (hi : i ∈ is) (hs : w.strb.getD i false = true) :
    readByte (applyLanes a w is s).mem (addrAdd a i) = lane w.data i := by
  induction is generalizing s with
  | nil => cases hi
  | cons j is ih =>
    rw [List.map_cons, List.nodup_cons] at hnodup
    obtain ⟨hj, hnodup⟩ := hnodup
    rw [applyLanes]
    obtain rfl | hi := List.mem_cons.1 hi
    · have hlater : ∀ k ∈ is, w.strb.getD k false = true → addrAdd a i ≠ addrAdd a k :=
        fun k hk _ heq => hj (heq ▸ List.mem_map_of_mem hk)
      rw [if_pos hs, readByte_applyLanes_other (writeLane_wf h _ _) hlater, writeLane_mem]
      exact readByte_writeByte_same h _ _
    · split
      · exact ih (writeLane_wf h _ _) hnodup hi
      · exact ih h hnodup hi

/-- The lanes of a beat stand at distinct addresses, on a bus no wider than the address space. -/
theorem lane_addresses_nodup (a : Addr) {db : Nat} (hdb : db ≤ 2 ^ 64) : ((List.range db).map (addrAdd a)).Nodup := by
  refine List.Nodup.map_on (fun i hi j hj heq => ?_) List.nodup_range
  rw [List.mem_range] at hi hj
  have hkey : BitVec.ofNat 64 i = BitVec.ofNat 64 j := by simpa [addrAdd] using heq
  have hnat := congrArg BitVec.toNat hkey
  rwa [BitVec.toNat_ofNat, BitVec.toNat_ofNat, Nat.mod_eq_of_lt (by omega), Nat.mod_eq_of_lt (by omega)] at hnat

/-- A data beat writes its strobed bytes and no others (R106, R113). -/
theorem applyBeat_strobedWrite (a : Addr) (w : WBeat) (h : Memory.wf s.mem = true) (hdb : s.cfg.dataBytes ≤ 2 ^ 64) :
    StrobedWrite s.cfg.dataBytes a w s.mem (applyBeat a w s).mem :=
  ⟨fun _ hi hs => readByte_applyLanes_lane h (lane_addresses_nodup a hdb) (List.mem_range.2 hi) hs,
    fun _ hb => readByte_applyLanes_other h fun i hi hs => hb i (List.mem_range.1 hi) hs⟩

/-- Settles O23: the pairing is the beat's write and the head's countdown. -/
theorem pairBeatResult : Obligations.PairBeatResult := by
  intro s e es w ws ha hw
  refine ⟨(applyBeat e.addr w s).mem, ?_, applyBeat_strobedWrite e.addr w⟩
  rw [← applyBeat_events]
  simp only [exec, execWpairBeat, ha, hw]
  rw [pairBeat_frame]
  rfl

/-- Settles O24: the pairing is the beat's write and the burst's response. -/
theorem pairLastResult : Obligations.PairLastResult := by
  intro s e es w ws ha hw
  refine ⟨(applyBeat e.addr w s).mem, ?_, applyBeat_strobedWrite e.addr w⟩
  rw [← applyBeat_events]
  simp only [exec, execWpairLast, ha, hw]
  rw [pairLast_frame]

end Sys2Proof.Machine
end

section
/-!
What the AR slot pushes into the primary queue and requests of the backend, and what a tick makes of both.
-/

namespace Sys2Proof.Machine

variable {s : State}

/-- The data of beat `k` of an ATOMIC-mode burst accepted in `s`, read at `a` (R164): of the Block Store, or the backend's
answer to that beat, a bus width of free values for each beat before it (log 3). -/
def atomicData (s : State) (k : Nat) (a : Addr) : List DataWord :=
  match s.cfg.rdataSrc with
  | .backend => pack (backendBytes (s.draws + k * s.cfg.dataBytes) s.cfg.dataBytes)
  | .blockStore => blockBeat s a

/-- The beats of an ATOMIC-mode burst accepted in `s` (R164). -/
def atomicBurst (id : Id) (s : State) (bs : List (Addr × Bool)) : List ReadBeat :=
  bs.mapIdx fun k b => readBeat id b.2 (atomicData s k b.1)

@[simp] theorem atomicBeat_cfg (id : Id) (b : Addr × Bool) (s : State) : (atomicBeat id b s).cfg = s.cfg := rfl

@[simp] theorem atomicBeats_cfg (id : Id) (bs : List (Addr × Bool)) (s : State) :
    (atomicBeats id bs s).cfg = s.cfg := by rw [atomicBeats_frame]

/-- Once a beat is served, the next beats' data is what it was to be: the beat drew the free values of its own place. -/
theorem atomicData_atomicBeat (id : Id) (b : Addr × Bool) (s : State) (k : Nat) (a : Addr) :
    atomicData (atomicBeat id b s) k a = atomicData s (k + 1) a := by
  have hdraws : s.draws + s.cfg.dataBytes + k * s.cfg.dataBytes = s.draws + (k + 1) * s.cfg.dataBytes := by ring
  unfold atomicData
  rw [atomicBeat_cfg, ← hdraws]
  rfl

theorem atomicBurst_cons (id : Id) (s : State) (b : Addr × Bool) (bs : List (Addr × Bool)) :
    atomicBurst id s (b :: bs) = readBeat id b.2 (atomicData s 0 b.1) :: atomicBurst id (atomicBeat id b s) bs := by
  rw [atomicBurst, List.mapIdx_cons]
  simp only [atomicBurst, atomicData_atomicBeat]

theorem atomicBeat_pq (id : Id) (b : Addr × Bool) (s : State) :
    (atomicBeat id b s).pq = s.pq ++ [readBeat id b.2 (atomicData s 0 b.1)] := by
  cases hsrc : s.cfg.rdataSrc <;> simp [atomicBeat, atomicData, hsrc]

/-- The beats of an ATOMIC-mode burst join the primary queue in beat order (R164). -/
theorem atomicBeats_pq (id : Id) (bs : List (Addr × Bool)) (s : State) :
    (atomicBeats id bs s).pq = s.pq ++ atomicBurst id s bs := by
  induction bs generalizing s with
  | nil => simp [atomicBeats, atomicBurst]
  | cons b bs ih => rw [atomicBeats, ih, atomicBurst_cons, atomicBeat_pq, List.append_assoc, List.singleton_append]

/-- The backend is read once per beat, in beat order (R164). -/
theorem atomicBeats_events (id : Id) (bs : List (Addr × Bool)) (s : State) :
    (atomicBeats id bs s).events = s.events ++ bs.map fun b => .read b.1 s.cfg.dataBytes false := by
  induction bs generalizing s with
  | nil => simp [atomicBeats]
  | cons b bs ih => rw [atomicBeats, ih]; simp [atomicBeat]

/-- A bus width of free values is drawn for every beat (log 3). -/
theorem atomicBeats_draws (id : Id) (bs : List (Addr × Bool)) (s : State) :
    (atomicBeats id bs s).draws = s.draws + bs.length * s.cfg.dataBytes := by
  induction bs generalizing s with
  | nil => simp [atomicBeats]
  | cons b bs ih => rw [atomicBeats, ih, List.length_cons]; simp only [atomicBeat]; ring

theorem atomicBurst_of_blockStore (id : Id) (bs : List (Addr × Bool)) (hsrc : s.cfg.rdataSrc = .blockStore) :
    atomicBurst id s bs = blockBeats id s bs := by
  refine List.ext_getElem (by simp [atomicBurst, blockBeats]) fun k _ _ => ?_
  simp [atomicBurst, blockBeats, atomicData, hsrc]

/-- Beat `k` of a burst stands `k` bus widths on, and the last one is marked (R100). -/
theorem burstOf_getElem? (db : Nat) (p : AddrReq) {k : Nat} (hk : k ≤ p.len.toNat) :
    (burstOf db p)[k]? = some (addrAdd (align db p.addr) (k * db), decide (k = p.len.toNat)) := by
  simp [burstOf, splitRead, Nat.lt_succ_of_le hk]

theorem atomicBurst_length (id : Id) (s : State) (bs : List (Addr × Bool)) :
    (atomicBurst id s bs).length = bs.length := List.length_mapIdx

theorem atomicBurst_getElem? (p : AddrReq) (s : State) {k : Nat} (hk : k ≤ p.len.toNat) :
    (atomicBurst p.id s (burstOf s.cfg.dataBytes p))[k]? = some
      (readBeat p.id (decide (k = p.len.toNat))
        (atomicData s k (addrAdd (align s.cfg.dataBytes p.addr) (k * s.cfg.dataBytes)))) := by
  rw [atomicBurst, List.getElem?_mapIdx, burstOf_getElem? _ p hk]
  rfl

theorem addrAdd_addrAdd (a : Addr) (j k : Nat) : addrAdd (addrAdd a j) k = a + BitVec.ofNat 64 (j + k) := by
  rw [addrAdd, addrAdd, BitVec.add_assoc, BitVec.ofNat_add]

/-- The bytes of a beat read from the Block Store are those at its address (R58). -/
theorem lane_blockBeat (hdb : 4 ∣ s.cfg.dataBytes) (a : Addr) {j : Nat} (hj : j < s.cfg.dataBytes) :
    lane (blockBeat s a) j = readByte s.mem (addrAdd a j) := by
  have hlength : (memRead s.mem a s.cfg.dataBytes).length = s.cfg.dataBytes := by simp [memRead]
  rw [blockBeat, lane_pack (by omega)]
  simp [memRead, hj]

/-- The data of a beat of an accepted ATOMIC-mode burst, source by source (R164, R55). -/
theorem atomicData_spec (hdb : 4 ∣ s.cfg.dataBytes) (k : Nat) (a : Addr) :
    (atomicData s k (addrAdd a (k * s.cfg.dataBytes))).length = s.cfg.nwords ∧
    (s.cfg.rdataSrc = .blockStore → ∀ j < s.cfg.dataBytes,
      lane (atomicData s k (addrAdd a (k * s.cfg.dataBytes))) j =
        readByte s.mem (a + BitVec.ofNat 64 (k * s.cfg.dataBytes + j))) ∧
    (s.cfg.rdataSrc = .backend → atomicData s k (addrAdd a (k * s.cfg.dataBytes)) =
      pack (backendBytes (s.draws + k * s.cfg.dataBytes) s.cfg.dataBytes)) := by
  unfold atomicData
  cases s.cfg.rdataSrc with
  | backend => simp [backendBytes, Params.nwords]
  | blockStore =>
    refine ⟨by simp [blockBeat, memRead, Params.nwords], fun _ j hj => ?_, by simp⟩
    rw [lane_blockBeat hdb _ hj, addrAdd_addrAdd]

/-- Settles O31: the accepted burst is `atomicBurst`, with its reads, its draws and the gap behind it. -/
theorem atomicReadResult : Obligations.AtomicReadResult := by
  intro p s hdb
  refine ⟨atomicBurst p.id s (burstOf s.cfg.dataBytes p), ?_, ?_, fun k hk => ?_⟩
  · have hreads : ((burstOf s.cfg.dataBytes p).map fun b => BackendEvent.read b.1 s.cfg.dataBytes false) =
        (List.range (p.len.toNat + 1)).map fun k =>
          .read (align s.cfg.dataBytes p.addr + BitVec.ofNat 64 (k * s.cfg.dataBytes)) s.cfg.dataBytes false := by
      rw [burstOf, splitRead, List.map_map]
      rfl
    simp only [exec, execArAcceptA]
    rw [← hreads, ← burstOf_length s.cfg.dataBytes p, ← atomicBeats_pq, ← atomicBeats_events p.id,
      ← atomicBeats_draws p.id, acceptA, atomicBeats_frame]
    rfl
  · rw [atomicBurst_length, burstOf_length]
  · exact ⟨_, atomicBurst_getElem? p s hk, atomicData_spec hdb k _⟩

/-- What the AR slot pushes into the primary queue: the beats of an accepted burst and the gap behind them, in FUNCTIONAL
and ATOMIC mode (R163, R164). -/
def acceptedBeats (inp : Inputs) (s : State) : List ReadBeat :=
  if inp.arvalid && s.arready then
    match s.cfg.mode with
    | .functional =>
      blockBeats inp.ar.id s (burstOf s.cfg.dataBytes inp.ar) ++ List.replicate s.cfg.rDelay (gapBeat s.cfg.nwords)
    | .atomic =>
      atomicBurst inp.ar.id s (burstOf s.cfg.dataBytes inp.ar) ++ List.replicate s.cfg.rDelay (gapBeat s.cfg.nwords)
    | .timing => []
  else []

/-- What the AR slot requests of the backend: one read per beat of an accepted burst, in ATOMIC and TIMING mode (R164,
R141). -/
def acceptedReads (inp : Inputs) (s : State) : List BackendEvent :=
  if inp.arvalid && s.arready then
    match s.cfg.mode with
    | .functional => []
    | .atomic => (burstOf s.cfg.dataBytes inp.ar).map fun b => .read b.1 s.cfg.dataBytes false
    | .timing => (burstOf s.cfg.dataBytes inp.ar).map fun b => .read b.1 s.cfg.dataBytes true
  else []

theorem registerBeats_events (id : Id) (bs : List (Addr × Bool)) (s : State) :
    (registerBeats id bs s).events = s.events ++ bs.map fun b => .read b.1 s.cfg.dataBytes true := by
  induction bs generalizing s with
  | nil => simp [registerBeats]
  | cons b bs ih => rw [registerBeats, ih]; simp

theorem arSlot_pq (inp : Inputs) (s : State) : (arSlot inp s).pq = s.pq ++ acceptedBeats inp s := by
  unfold arSlot acceptedBeats
  split
  · cases s.cfg.mode with
    | functional => exact List.append_assoc ..
    | atomic => simp only [acceptA, pushGap_pq, atomicBeats_pq, atomicBeats_cfg, List.append_assoc]
    | timing => simp only [acceptT, List.append_nil]; rw [registerBeats_frame]
  · rw [restAr_pq, List.append_nil]

theorem arSlot_events (inp : Inputs) (s : State) : (arSlot inp s).events = s.events ++ acceptedReads inp s := by
  unfold arSlot acceptedReads
  split
  · cases s.cfg.mode with
    | functional => exact (List.append_nil _).symm
    | atomic => exact atomicBeats_events _ _ s
    | timing => exact registerBeats_events _ _ s
  · rw [restAr_events, List.append_nil]

/-- The AW and W slots change nothing that the AR slot reads. -/
theorem accepted_after_awSlot_wSlot (inp : Inputs) (s : State) :
    acceptedBeats inp (wSlot inp (awSlot inp s)) = acceptedBeats inp s ∧
    acceptedReads inp (wSlot inp (awSlot inp s)) = acceptedReads inp s := by
  rw [wSlot_frame, awSlot_frame]
  exact ⟨rfl, rfl⟩

/-- Up to PAIR a tick pushes what its AR slot pushes. -/
theorem evaluateFront_pq (inp : Inputs) (s : State) : (evaluateFront inp s).pq = s.pq ++ acceptedBeats inp s := by
  rw [evaluateFront, pairSlot_frame, ← (accepted_after_awSlot_wSlot inp s).1]
  simp only [arSlot_pq]
  rw [wSlot_frame, awSlot_frame]

theorem mem_laneWrites {m : Mode} {db : Nat} {a : Addr} {w : WBeat} {e : BackendEvent} (he : e ∈ laneWrites m db a w) :
    ∃ a v b, e = .write a v b := by
  cases m with
  | functional => cases he
  | atomic | timing =>
    obtain ⟨i, -, rfl⟩ := List.mem_map.1 he
    exact ⟨_, _, _, rfl⟩

/-- All that the PAIR slot requests of the backend: nothing, or the writes of one data beat (R107, R108). -/
theorem pairSlot_events (s : State) :
    (pairSlot s).events = s.events ∨
    ∃ a w, (pairSlot s).events = s.events ++ laneWrites s.cfg.mode s.cfg.dataBytes a w := by
  obtain ⟨-, h⟩ | ⟨e, es, w, ws, -, -, ⟨-, -, h⟩ | ⟨-, -, h⟩ | ⟨-, -, h⟩ | ⟨-, -, h⟩⟩ := pairSlot_cases s <;> rw [h]
  · exact .inl rfl
  · exact .inr ⟨e.addr, w, applyBeat_events e.addr w s⟩
  · exact .inl rfl
  · exact .inl rfl
  · exact .inr ⟨e.addr, w, applyBeat_events e.addr w s⟩

theorem mem_acceptedReads {inp : Inputs} {e : BackendEvent} (he : e ∈ acceptedReads inp s) :
    ∃ a n b, e = .read a n b := by
  unfold acceptedReads at he
  split at he
  · cases hm : s.cfg.mode with
    | functional => simp [hm] at he
    | atomic | timing =>
      simp only [hm] at he
      obtain ⟨b, -, rfl⟩ := List.mem_map.1 he
      exact ⟨_, _, _, rfl⟩
  · cases he

/-- The slots after PAIR request nothing of the backend. -/
theorem evaluate_events (inp : Inputs) (s : State) : (evaluate inp s).events = (evaluateFront inp s).events := by
  unfold evaluate
  split
  · rfl
  · rw [evaluateBack, bSlot_frame, rSlot_frame, arrdySlot_frame, drainSlot_frame]

/-- A tick's requests: the reads of its AR slot, then those of its PAIR slot (R224). -/
theorem evaluateFront_events (inp : Inputs) (s : State) :
    ∃ writes, (evaluateFront inp s).events = s.events ++ acceptedReads inp s ++ writes ∧
      ∀ e ∈ writes, ∃ a v b, e = .write a v b := by
  have hfront : (arSlot inp (wSlot inp (awSlot inp s))).events = s.events ++ acceptedReads inp s := by
    rw [arSlot_events, (accepted_after_awSlot_wSlot inp s).2, wSlot_frame, awSlot_frame]
  rw [evaluateFront]
  obtain h | ⟨a, w, h⟩ := pairSlot_events (arSlot inp (wSlot inp (awSlot inp s))) <;> rw [h, hfront]
  · exact ⟨[], (List.append_nil _).symm, by simp⟩
  · exact ⟨_, rfl, fun e he => mem_laneWrites he⟩

/-- Settles O56: the PAIR slot, which writes, comes after the AR slot, which reads. -/
theorem readsComeBeforeWritesInATick : Obligations.ReadsComeBeforeWritesInATick := by
  intro inp s t h
  obtain ⟨-, rfl⟩ := execTick_next h
  refine ⟨fun hm hvalid hready => ?_, ?_⟩
  · have haccepted : acceptedBeats inp s = blockBeats inp.ar.id s (burstOf s.cfg.dataBytes inp.ar) ++
        List.replicate s.cfg.rDelay (gapBeat s.cfg.nwords) := by
      obtain hm | ⟨hm, hsrc⟩ := hm
      · simp [acceptedBeats, hvalid, hready, hm]
      · simp [acceptedBeats, hvalid, hready, hm, atomicBurst_of_blockStore _ _ hsrc]
    rw [evaluateFront_pq, haccepted, List.append_assoc]
  · obtain ⟨writes, hevents, hwrites⟩ := evaluateFront_events inp s
    refine ⟨acceptedReads inp s, writes, ?_, fun e he => mem_acceptedReads he, hwrites⟩
    rw [evaluate_events, hevents]

end Sys2Proof.Machine
end

section
/-!
The latency of a read: a beat moves one place a tick through the pipeline, as long as nothing holds it.
-/

namespace Sys2Proof.Machine

variable {s t : State} {inp : Inputs}

/-- `shift(x)` puts `x` between the latency register and the primary queue (R120). -/
theorem pipeline_shift (x : ReadBeat) (s : State) : pipeline (shift x s) = s.lq ++ x :: s.pq := by
  rw [pipeline, shift_pq, ← List.cons_append, shift_order, List.append_assoc, List.singleton_append]

/-- An R slot without a hold takes the presented beat off the pipeline's front (R124, R125). -/
theorem rSlot_pipeline (hready : s.rout.valid = false ∨ inp.rready = true) :
    s.lq ++ s.pq <+: pipeline (rSlot inp s) := by
  obtain ⟨hv, hr, -⟩ | ⟨-, ⟨hq, h⟩ | ⟨x, xs, hq, h⟩⟩ := rSlot_cases inp s
  · simp [hv, hr] at hready
  · rw [h, advanceFill, pipeline_shift]
    exact List.prefix_append_right_inj _ |>.2 (hq ▸ List.nil_prefix)
  · rw [h, advanceWith, pipeline_shift, hq]

/-- The DRAIN slot takes nothing out of the primary queue (R144, R145). -/
theorem drainSlot_keeps_queued (s : State) : s.pq <+: (drainSlot s).pq := by
  by_cases hm : s.cfg.mode = .timing
  · rw [drainSlot_timing hm]
    obtain h | ⟨a, as, e, es, -, -, -, ⟨-, h⟩ | ⟨-, h⟩⟩ := drainTiming_cases s <;> rw [h]
    · exact List.prefix_rfl
    · exact List.prefix_append _ _
    · exact (List.prefix_append _ _).trans (List.prefix_append _ _)
  · rw [(drain_arrdy_skip hm).1]

theorem evaluateBack_pipeline (hready : s.rout.valid = false ∨ inp.rready = true) :
    s.lq ++ s.pq <+: pipeline (evaluateBack inp s) := by
  have hslots : (arrdySlot (drainSlot s)).rout = s.rout ∧ (arrdySlot (drainSlot s)).lq = s.lq ∧
      (arrdySlot (drainSlot s)).pq = (drainSlot s).pq := by
    rw [arrdySlot_frame, drainSlot_frame]
    exact ⟨rfl, rfl, rfl⟩
  obtain ⟨hrout, hlq, hpq⟩ := hslots
  have hslot := rSlot_pipeline (s := arrdySlot (drainSlot s)) (hrout ▸ hready)
  rw [hlq, hpq] at hslot
  rw [evaluateBack, bSlot_frame]
  exact ((List.prefix_append_right_inj _).2 (drainSlot_keeps_queued s)).trans hslot

@[simp] theorem evaluateFront_rout (inp : Inputs) (s : State) : (evaluateFront inp s).rout = s.rout := by
  rw [evaluateFront, pairSlot_frame, arSlot_frame, wSlot_frame, awSlot_frame]

@[simp] theorem evaluateFront_lq (inp : Inputs) (s : State) : (evaluateFront inp s).lq = s.lq := by
  rw [evaluateFront, pairSlot_frame, arSlot_frame, wSlot_frame, awSlot_frame]

/-- A completed tick without a hold takes the presented beat off the pipeline's front, and its AR slot's beats stand behind
what was queued (R129, R132). -/
theorem evaluate_pipeline (hready : s.rout.valid = false ∨ inp.rready = true) (hf : (evaluate inp s).fault = .none) :
    s.lq ++ (s.pq ++ acceptedBeats inp s) <+: pipeline (evaluate inp s) := by
  unfold evaluate at hf ⊢
  split
  · next hfront =>
    rw [if_pos hfront] at hf
    simp [faulted, hf] at hfront
  · rw [← evaluateFront_pq, ← evaluateFront_lq inp s]
    exact evaluateBack_pipeline (by rwa [evaluateFront_rout])

/-- A run of ticks starts with a tick (R161). -/
theorem runTicks_cons {inps : List Inputs} (h : runTicks (inp :: inps) s = some t) :
    faulted s = false ∧ runTicks inps (evaluate inp s) = some t := by
  cases he : exec (.tick inp) s with
  | next u =>
    obtain ⟨hf, rfl⟩ := execTick_next he
    exact ⟨hf, by simpa [runTicks, he] using h⟩
  | fault r => simp [runTicks, he] at h
  | refused r => simp [runTicks, he] at h

/-- A run of ticks that ends unfaulted starts unfaulted, since a tick is refused in a faulted block (R162). -/
theorem fault_none_of_runTicks {inps : List Inputs} (h : runTicks inps s = some t) (hf : t.fault = .none) :
    s.fault = .none := by
  cases inps with
  | nil => cases h; exact hf
  | cons inp inps => simpa [faulted] using (runTicks_cons h).1

theorem getElem?_of_isPrefix {α : Type} {l m : List α} {i : Nat} {a : α} (h : l <+: m) (ha : l[i]? = some a) :
    m[i]? = some a := by
  obtain ⟨r, rfl⟩ := h
  obtain ⟨hi, -⟩ := List.getElem?_eq_some_iff.1 ha
  rwa [List.getElem?_append_left hi]

/-- Without holds, the beat that stands `n` places behind the presented one is presented `n` ticks later (R120, R132). -/
theorem runTicks_presents {inps : List Inputs} {b : ReadBeat} (hready : ∀ i ∈ inps, i.rready = true)
    (h : runTicks inps s = some t) (hf : t.fault = .none) (hb : (pipeline s)[inps.length]? = some b) : t.rout = b := by
  induction inps generalizing s with
  | nil => cases h; simpa [pipeline] using hb
  | cons inp inps ih =>
    obtain ⟨-, hrun⟩ := runTicks_cons h
    have hmove := evaluate_pipeline (.inr (hready inp List.mem_cons_self)) (fault_none_of_runTicks hrun hf)
    have hqueued : (s.lq ++ s.pq)[inps.length]? = some b := hb
    rw [← List.append_assoc] at hmove
    exact ih (fun i hi => hready i (List.mem_cons_of_mem inp hi)) hrun
      (getElem?_of_isPrefix ((List.prefix_append _ _).trans hmove) hqueued)

/-- The latency law (R232), whatever the burst's data: with an empty primary queue and no hold, the `k`-th beat that a tick's
AR slot pushes is presented `R_LATENCY + k` ticks after that tick. -/
theorem accepted_beat_latency {inps : List Inputs} {k : Nat} {b : ReadBeat} (hdepth : LatencyDepth s) (hpq : s.pq = [])
    (hready : s.rout.valid = false ∨ inp.rready = true) (hlater : ∀ i ∈ inps, i.rready = true)
    (hlength : inps.length = s.cfg.rLatency + k) (h : runTicks (inp :: inps) s = some t) (hf : t.fault = .none)
    (hb : (acceptedBeats inp s)[k]? = some b) : t.rout = b := by
  obtain ⟨-, hrun⟩ := runTicks_cons h
  have hmove := evaluate_pipeline hready (fault_none_of_runTicks hrun hf)
  refine runTicks_presents hlater hrun hf (getElem?_of_isPrefix hmove ?_)
  have hdepth : s.lq.length = s.cfg.rLatency := hdepth
  rw [hlength, ← hdepth, hpq, List.nil_append, List.getElem?_append_right (Nat.le_add_right _ _),
    Nat.add_sub_cancel_left]
  exact hb

/-- Settles O59: the beat is the burst's, and it is presented by the latency law. -/
theorem atomicReadLatency : Obligations.AtomicReadLatency := by
  intro inp s t k inps hm hdb hdepth hpq hready hvalid harready hk hlength hlater h hf
  refine ⟨atomicData s k _, ?_, atomicData_spec hdb k _⟩
  refine accepted_beat_latency hdepth hpq hready hlater hlength h hf ?_
  have hlt : k < (atomicBurst inp.ar.id s (burstOf s.cfg.dataBytes inp.ar)).length := by
    rw [atomicBurst_length, burstOf_length]; exact Nat.lt_succ_of_le hk
  simp only [acceptedBeats, hvalid, harready, Bool.and_self, if_true, hm]
  rw [List.getElem?_append_left hlt]
  exact atomicBurst_getElem? inp.ar s hk

end Sys2Proof.Machine
end

section
/-!
What the operations see of the Block Store: none sees its block size, and in TIMING mode a tick sees its contents only to
write them.
-/

namespace Sys2Proof.Machine

/-- `s` on a block whose Block Store has block size `n` and the contents that `g` makes of its own. -/
def changeStore (n : Nat) (g : List Host.Cell → List Host.Cell) (s : State) : State :=
  { s with cfg := { s.cfg with blockBytes := n }, mem := g s.mem }

variable (n : Nat) (g : List Host.Cell → List Host.Cell) (s : State) (inp : Inputs)

theorem withBlockBytes_eq_changeStore : withBlockBytes n = changeStore n id := rfl

@[simp] theorem changeStore_mode : (changeStore n g s).cfg.mode = s.cfg.mode := rfl
@[simp] theorem changeStore_dataBytes : (changeStore n g s).cfg.dataBytes = s.cfg.dataBytes := rfl
@[simp] theorem changeStore_awq : (changeStore n g s).awq = s.awq := rfl
@[simp] theorem changeStore_wq : (changeStore n g s).wq = s.wq := rfl
@[simp] theorem changeStore_pq : (changeStore n g s).pq = s.pq := rfl
@[simp] theorem changeStore_oq : (changeStore n g s).oq = s.oq := rfl
@[simp] theorem pendingAt_changeStore (a : Addr) : pendingAt (changeStore n g s) a = pendingAt s a := rfl
@[simp] theorem cplMatch_changeStore (a : Addr) : cplMatch (changeStore n g s) a = cplMatch s a := rfl
@[simp] theorem faulted_changeStore : faulted (changeStore n g s) = faulted s := rfl

/-! ### The slots that do not touch the Block Store -/

theorem awSlot_changeStore : awSlot inp (changeStore n g s) = changeStore n g (awSlot inp s) := by
  unfold awSlot
  rw [apply_ite (changeStore n g)]
  rfl

theorem wSlot_changeStore : wSlot inp (changeStore n g s) = changeStore n g (wSlot inp s) := by
  unfold wSlot
  rw [apply_ite (changeStore n g)]
  rfl

theorem registerBeats_changeStore (id : Id) (bs : List (Addr × Bool)) :
    registerBeats id bs (changeStore n g s) = changeStore n g (registerBeats id bs s) := by
  induction bs generalizing s with
  | nil => rfl
  | cons b bs ih => exact ih (registerBeat id b s)

theorem acceptT_changeStore (p : AddrReq) : acceptT p (changeStore n g s) = changeStore n g (acceptT p s) :=
  registerBeats_changeStore n g s _ _

theorem restAr_changeStore : restAr (changeStore n g s) = changeStore n g (restAr s) := by
  unfold restAr
  rw [changeStore_mode]
  cases s.cfg.mode <;> rfl

theorem drainTiming_changeStore : drainTiming (changeStore n g s) = changeStore n g (drainTiming s) := by
  unfold drainTiming
  rw [changeStore_oq]
  cases s.oq with
  | nil => rfl
  | cons a as =>
    simp only [pendingAt_changeStore]
    cases pendingAt s a with
    | nil => rfl
    | cons e es => simp only [apply_ite (changeStore n g)]; rfl

theorem drainSlot_changeStore : drainSlot (changeStore n g s) = changeStore n g (drainSlot s) := by
  unfold drainSlot
  rw [changeStore_mode]
  cases s.cfg.mode with
  | functional | atomic => rfl
  | timing => exact drainTiming_changeStore n g s

theorem arrdySlot_changeStore : arrdySlot (changeStore n g s) = changeStore n g (arrdySlot s) := by
  unfold arrdySlot
  rw [changeStore_mode]
  cases s.cfg.mode with
  | functional | atomic => rfl
  | timing => simp only [apply_ite (changeStore n g)]; rfl

theorem shift_changeStore (x : ReadBeat) : shift x (changeStore n g s) = changeStore n g (shift x s) := by
  unfold shift changeStore
  cases s.lq <;> rfl

theorem advanceWith_changeStore (x : ReadBeat) (xs : List ReadBeat) :
    advanceWith x xs (changeStore n g s) = changeStore n g (advanceWith x xs s) :=
  shift_changeStore n g { s with pq := xs } x

theorem advanceFill_changeStore : advanceFill (changeStore n g s) = changeStore n g (advanceFill s) :=
  shift_changeStore n g s _

theorem rSlot_changeStore : rSlot inp (changeStore n g s) = changeStore n g (rSlot inp s) := by
  have hadvance : advance (changeStore n g s) = changeStore n g (advance s) := by
    unfold advance
    rw [changeStore_pq]
    cases s.pq with
    | nil => exact advanceFill_changeStore n g s
    | cons x xs => exact advanceWith_changeStore n g s x xs
  unfold rSlot
  rw [apply_ite (changeStore n g), hadvance]
  rfl

theorem bSlot_changeStore : bSlot inp (changeStore n g s) = changeStore n g (bSlot inp s) := by
  unfold bSlot
  rw [apply_ite (changeStore n g)]
  rfl

theorem evaluateBack_changeStore :
    evaluateBack inp (changeStore n g s) = changeStore n g (evaluateBack inp s) := by
  simp only [evaluateBack, drainSlot_changeStore, arrdySlot_changeStore, rSlot_changeStore, bSlot_changeStore]

variable {n g s inp}

/-- A tick makes of a changed Block Store what its slots up to PAIR make of it. -/
theorem evaluate_changeStore {h : List Host.Cell → List Host.Cell}
    (hfront : evaluateFront inp (changeStore n g s) = changeStore n h (evaluateFront inp s)) :
    evaluate inp (changeStore n g s) = changeStore n h (evaluate inp s) := by
  unfold evaluate
  rw [hfront, faulted_changeStore, evaluateBack_changeStore, apply_ite (changeStore n h)]

/-! ### The PAIR slot, which writes to the Block Store -/

theorem pairBeat_changeStore (e : AwEntry) (es : List AwEntry) (w : WBeat) (ws : List WBeat) :
    pairBeat e es w ws (changeStore n g s) =
      changeStore n (fun _ => (applyBeat e.addr w (changeStore n g s)).mem) (pairBeat e es w ws s) := by
  rw [pairBeat_frame, pairBeat_frame, applyBeat_events, applyBeat_events]
  rfl

theorem pairLast_changeStore (e : AwEntry) (es : List AwEntry) (w : WBeat) (ws : List WBeat) :
    pairLast e es w ws (changeStore n g s) =
      changeStore n (fun _ => (applyBeat e.addr w (changeStore n g s)).mem) (pairLast e es w ws s) := by
  rw [pairLast_frame, pairLast_frame, applyBeat_events, applyBeat_events]
  rfl

/-- What a pairing writes depends on the Block Store alone (R106). -/
theorem applyLanes_mem_congr {t : State} (a : Addr) (w : WBeat) (is : List Nat) (h : s.mem = t.mem) :
    (applyLanes a w is s).mem = (applyLanes a w is t).mem := by
  induction is generalizing s t with
  | nil => exact h
  | cons i is ih =>
    refine ih ?_
    split
    · rw [writeLane_mem, writeLane_mem, h]
    · exact h

theorem applyBeat_mem_changeStore_id (a : Addr) (w : WBeat) :
    (applyBeat a w (changeStore n id s)).mem = (applyBeat a w s).mem := applyLanes_mem_congr a w _ rfl

theorem pairBeat_changeStore_id (e : AwEntry) (es : List AwEntry) (w : WBeat) (ws : List WBeat) :
    pairBeat e es w ws (changeStore n id s) = changeStore n id (pairBeat e es w ws s) := by
  rw [pairBeat_changeStore, applyBeat_mem_changeStore_id]
  rfl

theorem pairLast_changeStore_id (e : AwEntry) (es : List AwEntry) (w : WBeat) (ws : List WBeat) :
    pairLast e es w ws (changeStore n id s) = changeStore n id (pairLast e es w ws s) := by
  rw [pairLast_changeStore, applyBeat_mem_changeStore_id]
  rfl

/-- The PAIR slot's choice and its requests do not depend on the Block Store: only the Block Store that it leaves does. -/
theorem pairSlot_changeStore : ∃ h, pairSlot (changeStore n g s) = changeStore n h (pairSlot s) := by
  unfold pairSlot
  rw [changeStore_awq, changeStore_wq]
  cases s.awq with
  | nil => exact ⟨g, rfl⟩
  | cons e es =>
    cases s.wq with
    | nil => exact ⟨g, rfl⟩
    | cons w ws =>
      simp only
      split
      · split
        · exact ⟨_, pairLast_changeStore e es w ws⟩
        · exact ⟨g, rfl⟩
      · split
        · exact ⟨g, rfl⟩
        · exact ⟨_, pairBeat_changeStore e es w ws⟩

theorem pairSlot_changeStore_id : pairSlot (changeStore n id s) = changeStore n id (pairSlot s) := by
  unfold pairSlot
  rw [changeStore_awq, changeStore_wq]
  cases s.awq with
  | nil => rfl
  | cons e es =>
    cases s.wq with
    | nil => rfl
    | cons w ws =>
      simp only [apply_ite (changeStore n id), pairLast_changeStore_id, pairBeat_changeStore_id]
      rfl

/-! ### The AR slot, which reads the Block Store outside TIMING mode -/

theorem arSlot_changeStore_timing (hm : s.cfg.mode = .timing) :
    arSlot inp (changeStore n g s) = changeStore n g (arSlot inp s) := by
  rw [arSlot_timing inp hm, arSlot_timing inp (s := changeStore n g s) hm, apply_ite (changeStore n g),
    acceptT_changeStore]
  rfl

theorem atomicBeats_changeStore_id (i : Id) (bs : List (Addr × Bool)) :
    atomicBeats i bs (changeStore n id s) = changeStore n id (atomicBeats i bs s) := by
  induction bs generalizing s with
  | nil => rfl
  | cons b bs ih => exact ih (s := atomicBeat i b s)

theorem acceptA_changeStore_id (p : AddrReq) : acceptA p (changeStore n id s) = changeStore n id (acceptA p s) := by
  unfold acceptA
  rw [changeStore_dataBytes, atomicBeats_changeStore_id]
  rfl

theorem arSlot_changeStore_id : arSlot inp (changeStore n id s) = changeStore n id (arSlot inp s) := by
  unfold arSlot
  rw [changeStore_mode, apply_ite (changeStore n id), restAr_changeStore]
  cases s.cfg.mode with
  | functional => rfl
  | atomic => simp only [acceptA_changeStore_id]; rfl
  | timing => simp only [acceptT_changeStore]; rfl

/-- Where the block size stays, only the contents change. -/
theorem changeStore_of_blockBytes (hn : s.cfg.blockBytes = n) : changeStore n g s = { s with mem := g s.mem } := by
  subst hn
  rfl

/-- Settles O57: in TIMING mode the slots up to PAIR see the Block Store only to write it, and the later slots do not see
it. -/
theorem timingModeIgnoresTheBlockStore : Obligations.TimingModeIgnoresTheBlockStore := by
  intro inp s t t' m hm ht ht'
  obtain ⟨-, rfl⟩ := execTick_next ht
  obtain ⟨-, rfl⟩ := execTick_next ht'
  have hm' : (wSlot inp (awSlot inp s)).cfg.mode = .timing := by rw [wSlot_frame, awSlot_frame]; exact hm
  have hblock : (evaluate inp s).cfg.blockBytes = s.cfg.blockBytes := by rw [evaluate_cfg]
  obtain ⟨h, hfront⟩ : ∃ h, evaluateFront inp (changeStore s.cfg.blockBytes (fun _ => m) s) =
      changeStore s.cfg.blockBytes h (evaluateFront inp s) := by
    rw [evaluateFront, awSlot_changeStore, wSlot_changeStore, arSlot_changeStore_timing hm']
    exact pairSlot_changeStore
  have hchange := evaluate_changeStore hfront
  rw [changeStore_of_blockBytes rfl, changeStore_of_blockBytes hblock] at hchange
  rw [hchange]

theorem evaluate_changeStore_id : evaluate inp (changeStore n id s) = changeStore n id (evaluate inp s) := by
  refine evaluate_changeStore ?_
  simp only [evaluateFront, awSlot_changeStore, wSlot_changeStore, arSlot_changeStore_id, pairSlot_changeStore_id]

/-! ### The rows -/

theorem mapNext_ite (f : State → State) (c : Bool) (x y : Host.Outcome State Fault Refusal) :
    mapNext f (if c then x else y) = if c then mapNext f x else mapNext f y := apply_ite (mapNext f) _ _ _

theorem execWpairBeat_changeStore_id :
    execWpairBeat (changeStore n id s) = mapNext (changeStore n id) (execWpairBeat s) := by
  unfold execWpairBeat
  rw [changeStore_awq, changeStore_wq]
  cases s.awq with
  | nil => rfl
  | cons e es =>
    cases s.wq with
    | nil => rfl
    | cons w ws => exact congrArg Host.Outcome.next (pairBeat_changeStore_id e es w ws)

theorem execWpairLast_changeStore_id :
    execWpairLast (changeStore n id s) = mapNext (changeStore n id) (execWpairLast s) := by
  unfold execWpairLast
  rw [changeStore_awq, changeStore_wq]
  cases s.awq with
  | nil => rfl
  | cons e es =>
    cases s.wq with
    | nil => rfl
    | cons w ws => exact congrArg Host.Outcome.next (pairLast_changeStore_id e es w ws)

theorem execDrain_changeStore :
    execDrainBeat (changeStore n g s) = mapNext (changeStore n g) (execDrainBeat s) ∧
    execDrainLast (changeStore n g s) = mapNext (changeStore n g) (execDrainLast s) := by
  unfold execDrainBeat execDrainLast
  rw [changeStore_oq]
  cases s.oq with
  | nil => exact ⟨rfl, rfl⟩
  | cons a as =>
    simp only [pendingAt_changeStore]
    cases pendingAt s a with
    | nil => exact ⟨rfl, rfl⟩
    | cons e es => exact ⟨rfl, rfl⟩

theorem execRShift_changeStore :
    execRXferShift (changeStore n g s) = mapNext (changeStore n g) (execRXferShift s) ∧
    execRFreeShift (changeStore n g s) = mapNext (changeStore n g) (execRFreeShift s) := by
  unfold execRXferShift execRFreeShift
  rw [changeStore_pq]
  cases s.pq with
  | nil => exact ⟨rfl, rfl⟩
  | cons x xs =>
    have hadvance := advanceWith_changeStore n g s x xs
    exact ⟨congrArg Host.Outcome.next hadvance, congrArg Host.Outcome.next hadvance⟩

/-- Settles O15, row by row: no meaning but a RESET's reads the block size. -/
theorem blockSizeIsNotObservable : Obligations.BlockSizeIsNotObservable := by
  intro i n s hi
  rw [withBlockBytes_eq_changeStore]
  cases i with
  | tick inp =>
    simp only [exec, execTick, faulted_changeStore, evaluate_changeStore_id, mapNext_ite]
    rfl
  | tickFaulted | cplFaulted =>
    simp only [exec, execTickFaulted, execCplFaulted, faulted_changeStore, mapNext_ite]
    rfl
  | awAccept | awIdle | awIdleNotready | wAccept | wIdle | wIdleNotready | arAcceptF | wfaultEarly | wfaultMissing
  | wpairIdleNoaw | wpairIdleNow | drainWait | drainEmpty | drainSkip | arrdyTDrained | arrdyTOpen | arrdyTFull
  | arrdySkip | rHold | bXfer | bHold | bIdle | resetReserved | queryInflight => rfl
  | arAcceptA p => exact congrArg _ (acceptA_changeStore_id p)
  | arAcceptT p => exact congrArg _ (acceptT_changeStore n id s p)
  | arIdle | arIdleNotready => exact congrArg _ (restAr_changeStore n id s)
  | wpairBeat => exact execWpairBeat_changeStore_id
  | wpairLast => exact execWpairLast_changeStore_id
  | drainBeat => exact execDrain_changeStore.1
  | drainLast => exact execDrain_changeStore.2
  | rXferShift => exact execRShift_changeStore.1
  | rFreeShift => exact execRShift_changeStore.2
  | rXferFill | rFreeFill => exact congrArg _ (advanceFill_changeStore n id s)
  | cplFill | cplUnexpected =>
    simp only [exec, execCplFill, execCplUnexpected, faulted_changeStore, cplMatch_changeStore, mapNext_ite]
    rfl
  | resetF p => exact absurd ⟨p, .inl rfl⟩ hi
  | resetA p => exact absurd ⟨p, .inr (.inl rfl)⟩ hi
  | resetT p => exact absurd ⟨p, .inr (.inr rfl)⟩ hi

end Sys2Proof.Machine
end

section
/-!
The opcode table: an OSV selects a row of a format exactly when it matches that row, and the decoder then reads that
row's operand.
-/

namespace Sys2Proof.Machine

/-- Two rows of one format prescribe different values to some OSV bit that both read (R84). -/
theorem row_eq_of_patterns_agree : ∀ r ∈ rows, ∀ r' ∈ rows, r.format = r'.format →
    r.pattern &&& r'.mask = r'.pattern &&& r.mask → r = r' := by decide

/-- A row's match word lies in its mask, so it matches its own row. -/
theorem pattern_and_mask : ∀ r ∈ rows, r.pattern &&& r.mask = r.pattern := by decide

/-- No match word outside a RESET has MODE `11` (R80). -/
theorem pattern_mode_legal : ∀ r ∈ rows, r.format = .reset ∨ r.pattern &&& 3 ≠ 3 := by decide

theorem Row.selects_iff {r : Row} {f : Format} {osv : Osv} :
    r.selects f osv = true ↔ r.format = f ∧ osv &&& r.mask = r.pattern := by
  simp [Row.selects]

/-- Settles O3: an OSV that matches two rows gives both the same value on the bits that both read, and no two rows of a
format agree there. -/
theorem noTwoRowsOfAFormatMatch : Obligations.NoTwoRowsOfAFormatMatch := by
  intro f osv r hr r' hr' h h'
  obtain ⟨hf, hm⟩ := Row.selects_iff.1 h
  obtain ⟨hf', hm'⟩ := Row.selects_iff.1 h'
  refine row_eq_of_patterns_agree r hr r' hr' (hf.trans hf'.symm) ?_
  rw [← hm, ← hm', BitVec.and_assoc, BitVec.and_assoc, BitVec.and_comm r.mask]

/-- The row that an OSV selects is the one that it matches: there is no second one (R84). -/
theorem selectRow_eq_some_iff {f : Format} {osv : Osv} {r : Row} :
    selectRow f osv = some r ↔ r ∈ rows ∧ r.format = f ∧ osv &&& r.mask = r.pattern := by
  rw [← Row.selects_iff]
  have hselects {r' : Row} (h : selectRow f osv = some r') : Row.selects r' f osv = true := by
    simpa using List.find?_some h
  constructor
  · intro h
    exact ⟨List.mem_of_find?_eq_some h, hselects h⟩
  · rintro ⟨hr, hs⟩
    have hfound : (selectRow f osv).isSome := List.find?_isSome.2 ⟨r, hr, hs⟩
    obtain ⟨r', h'⟩ := Option.isSome_iff_exists.1 hfound
    rwa [noTwoRowsOfAFormatMatch f osv r hr r' (List.mem_of_find?_eq_some h') hs (hselects h')]

/-- An OSV that the formats can write decodes to the operation of the row that it matches (R83, R84). -/
theorem decode_of_match {r : Row} {osv : Osv} (db : Nat) (o : Operand) (hr : r ∈ rows)
    (hm : osv &&& r.mask = r.pattern) (hz : osv >>> 26 = 0) (hmode : r.format = .reset ∨ osv &&& 3 ≠ 3) :
    decode db { format := r.format, osv := osv, operand := o } = attachOperand db o r.op := by
  have hsel : selectRow r.format osv = some r := selectRow_eq_some_iff.2 ⟨hr, rfl, hm⟩
  have hmode' : ¬ (r.format ≠ .reset ∧ osv &&& 3 = 3) := fun ⟨h, h'⟩ => hmode.elim h (· h')
  simp only [decode, if_neg (not_not.2 hz), if_neg hmode', hsel]

/-- Settles O5: the two checks come before the table is read. -/
theorem reservedEncodingsAreRefused : Obligations.ReservedEncodingsAreRefused := by
  intro db c
  refine ⟨fun h => if_pos h, fun hz hf hm => ?_⟩
  rw [decode, if_neg (not_not.2 hz), if_pos ⟨hf, hm⟩]

/-- Settles O4, word by word. -/
theorem specWordsDecode : Obligations.SpecWordsDecode :=
  ⟨rfl, rfl, rfl, rfl, rfl, rfl, rfl, rfl, rfl, rfl, rfl, rfl, rfl, rfl, rfl⟩

end Sys2Proof.Machine
end

section
/-!
The payload layouts: what is read from a packed payload is what was packed (R70, R71, R73, R86).
-/

namespace Sys2Proof.Machine

theorem unpackAddr_packAddr (r : AddrReq) : unpackAddr (packAddr r) = r := by
  have hid : (packAddr r).extractLsb' 64 8 = r.id :=
    (BitVec.extractLsb'_append_eq_of_le (by decide)).trans BitVec.extractLsb'_append_eq_right
  have hlen : (packAddr r).extractLsb' 72 8 = r.len :=
    (BitVec.extractLsb'_append_eq_of_le (by decide)).trans BitVec.extractLsb'_append_eq_left
  have haddr : (packAddr r).extractLsb' 0 64 = r.addr := BitVec.extractLsb'_append_eq_right
  rw [unpackAddr, hid, hlen, haddr]

theorem packBits_lt (bs : List Bool) : packBits bs < 2 ^ bs.length := by
  induction bs with
  | nil => decide
  | cons b bs ih =>
    have hb := b.toNat_le
    rw [packBits, List.length_cons, Nat.pow_succ]
    omega

/-- Bit `i` of packed bits is entry `i` (R71). -/
theorem testBit_packBits (bs : List Bool) (i : Nat) : (packBits bs).testBit i = bs.getD i false := by
  induction bs generalizing i with
  | nil => simp [packBits]
  | cons b bs ih =>
    have hb : b.toNat < 2 ^ 1 := b.toNat_lt
    rw [packBits, Nat.add_comm, ← Nat.pow_one 2, Nat.testBit_two_pow_mul_add _ hb]
    cases i with
    | zero => cases b <;> rfl
    | succ i => simpa using ih i

theorem packWords_lt (ds : List DataWord) : packWords ds < 2 ^ (32 * ds.length) := by
  induction ds with
  | nil => decide
  | cons d ds ih =>
    have hd := d.isLt
    rw [packWords, List.length_cons, Nat.mul_succ, Nat.pow_add]
    omega

/-- Bit `j` of word `k` of packed words (R71). -/
theorem testBit_packWords (ds : List DataWord) (k : Nat) {j : Nat} (hj : j < 32) :
    (packWords ds).testBit (32 * k + j) = (ds.getD k 0).getLsbD j := by
  induction ds generalizing k with
  | nil => simp [packWords]
  | cons d ds ih =>
    rw [packWords, Nat.add_comm d.toNat, Nat.testBit_two_pow_mul_add _ d.isLt]
    cases k with
    | zero => simp [hj, BitVec.getLsbD]
    | succ k =>
      have hge : ¬ 32 * (k + 1) + j < 32 := by omega
      have hsub : 32 * (k + 1) + j - 32 = 32 * k + j := by omega
      simpa [hge, hsub] using ih k

section payload

variable {db : Nat} {w : WBeat}

theorem WBeat.wellFormed_iff : w.wellFormed db = true ↔ w.data.length = db / 4 ∧ w.strb.length = db := by
  simp [WBeat.wellFormed]

/-- The words of a well-formed beat stay below its strobes, and the strobes below WLAST (R71). -/
theorem packW_parts_lt (h : w.wellFormed db = true) :
    packWords w.data < 2 ^ (8 * db) ∧ packWords w.data + 2 ^ (8 * db) * packBits w.strb < 2 ^ (9 * db) := by
  obtain ⟨hdata, hstrb⟩ := WBeat.wellFormed_iff.1 h
  have hwords : packWords w.data < 2 ^ (8 * db) :=
    (packWords_lt w.data).trans_le (Nat.pow_le_pow_right (by decide) (by omega))
  have hbits := packBits_lt w.strb
  rw [hstrb] at hbits
  refine ⟨hwords, ?_⟩
  calc packWords w.data + 2 ^ (8 * db) * packBits w.strb
      < 2 ^ (8 * db) * (packBits w.strb + 1) := by rw [Nat.mul_succ]; omega
    _ ≤ 2 ^ (8 * db) * 2 ^ db := Nat.mul_le_mul_left _ hbits
    _ = 2 ^ (9 * db) := by rw [← Nat.pow_add]; congr 1; omega

/-- Which part of a packed W payload a bit belongs to (R71). -/
theorem testBit_packW (h : w.wellFormed db = true) (i : Nat) :
    (packW db w).testBit i =
      if i < 9 * db then if i < 8 * db then (packWords w.data).testBit i else w.strb.getD (i - 8 * db) false
      else w.last.toNat.testBit (i - 9 * db) := by
  obtain ⟨hwords, hlow⟩ := packW_parts_lt h
  rw [packW, Nat.add_comm, Nat.testBit_two_pow_mul_add _ hlow, Nat.add_comm (packWords _),
    Nat.testBit_two_pow_mul_add _ hwords, testBit_packBits]

theorem testBit_packW_last (h : w.wellFormed db = true) : (packW db w).testBit (9 * db) = w.last := by
  rw [testBit_packW h]
  cases w.last <;> simp

theorem fitsW_packW (h : w.wellFormed db = true) : fitsW db (packW db w) = true := by
  obtain ⟨-, hlow⟩ := packW_parts_lt h
  have hlast : 2 ^ (9 * db) * w.last.toNat ≤ 2 ^ (9 * db) * 1 := Nat.mul_le_mul_left _ w.last.toNat_le
  rw [fitsW, decide_eq_true_eq, packW, Nat.pow_succ]
  omega

theorem unpackW_packW (h : w.wellFormed db = true) : unpackW db (packW db w) = w := by
  obtain ⟨hdata, hstrb⟩ := WBeat.wellFormed_iff.1 h
  have hwords : (unpackW db (packW db w)).data = w.data := by
    refine List.ext_getElem (by simp [unpackW, hdata]) fun k hk hk' => BitVec.eq_of_getLsbD_eq fun j hj => ?_
    have hlow : 32 * k + j < 8 * db := by omega
    have hbit : (packW db w).testBit (32 * k + j) = w.data[k].getLsbD j := by
      rw [testBit_packW h, if_pos (by omega), if_pos hlow, testBit_packWords _ _ hj, List.getD_eq_getElem _ _ hk']
    simpa [unpackW, hj, ← BitVec.getLsbD_eq_getElem, BitVec.getLsbD_ofNat] using hbit
  have hstrobes : (unpackW db (packW db w)).strb = w.strb := by
    refine List.ext_getElem (by simp [unpackW, hstrb]) fun i hi hi' => ?_
    have hbit : (packW db w).testBit (8 * db + i) = w.strb[i] := by
      rw [testBit_packW h, if_pos (by omega), if_neg (by omega), Nat.add_sub_cancel_left, List.getD_eq_getElem _ _ hi']
    simpa [unpackW] using hbit
  calc unpackW db (packW db w)
      = ⟨(unpackW db (packW db w)).data, (unpackW db (packW db w)).strb, (packW db w).testBit (9 * db)⟩ := rfl
    _ = w := by rw [hwords, hstrobes, testBit_packW_last h]

end payload

/-- The input control word holds its six signals from bit 0 up (R86). -/
theorem getLsbD_packIcw (inp : Inputs) {i : Nat} (hi : i < 6) :
    (packIcw inp).getLsbD i =
      [inp.awvalid, inp.wvalid, inp.wvalid && inp.w.last, inp.arvalid, inp.rready, inp.bready].getD i false := by
  rw [packIcw, BitVec.getLsbD_ofNat, testBit_packBits, decide_eq_true hi, Bool.true_and]

theorem unpackInputs_pack {db : Nat} {inp : Inputs} (h : inp.w.wellFormed db = true) :
    unpackInputs db (packIcw inp) (packAddr inp.aw) (packW db inp.w) (packAddr inp.ar) = inp := by
  rw [unpackInputs, unpackAddr_packAddr, unpackAddr_packAddr, unpackW_packW h, getLsbD_packIcw inp (by decide),
    getLsbD_packIcw inp (by decide), getLsbD_packIcw inp (by decide), getLsbD_packIcw inp (by decide),
    getLsbD_packIcw inp (by decide)]
  rfl

/-- A cycle's packed inputs are accepted and read back: the payload fits, and the ICW's WLAST bit is the payload's where
the W group is present (R71, R86). -/
theorem decodeCycle_pack {db : Nat} {inp : Inputs} (h : inp.w.wellFormed db = true) :
    decodeCycle db (packIcw inp) (packAddr inp.aw) (packW db inp.w) (packAddr inp.ar) = .ok (.tick inp) := by
  have hfits : ¬ ((packIcw inp).getLsbD 1 && !fitsW db (packW db inp.w)) = true := by rw [fitsW_packW h]; simp
  have hlast : ¬ ((packIcw inp).getLsbD 1 && (packIcw inp).getLsbD 2 != (packW db inp.w).testBit (9 * db)) = true := by
    rw [testBit_packW_last h, getLsbD_packIcw inp (by decide), getLsbD_packIcw inp (by decide)]
    cases hv : inp.wvalid <;> simp
  rw [decodeCycle, if_neg hfits, if_neg hlast, unpackInputs_pack h]

/-- What an operation is encoded with is read back by its row (R84, R86, R87). -/
theorem attachOperand_operand {db : Nat} {i : Instr} (h : i.wellFormed db = true) :
    attachOperand db (i.operand db) i.opcode = .ok i := by
  cases i with
  | tick inp => exact decodeCycle_pack h
  | awAccept p | arAcceptF p | arAcceptA p | arAcceptT p =>
    simp [attachOperand, Instr.opcode, Instr.operand, decodeAddr, unpackAddr_packAddr]
  | wAccept w =>
    simp [attachOperand, Instr.opcode, Instr.operand, decodeData, fitsW_packW h, unpackW_packW h]
  | cplFill a bytes => exact if_pos (of_decide_eq_true h)
  | cplUnexpected a => exact if_pos List.length_replicate
  | _ => rfl

end Sys2Proof.Machine
end

section
/-!
An encoded operation is decoded again, with its row's match word or with any other OSV that matches the row.
-/

namespace Sys2Proof.Machine

theorem rowOf_some {op : Opcode} {r : Row} (h : rowOf op = some r) : r ∈ rows ∧ r.op = op :=
  ⟨List.mem_of_find?_eq_some h, by simpa using List.find?_some h⟩

/-- Settles O2: the OSV selects the operation's row, and the row reads back the operand. -/
theorem unmaskedOsvBitsDoNotMatter : Obligations.UnmaskedOsvBitsDoNotMatter := by
  intro db i r osv hi hr hm hz hmode
  obtain ⟨hmem, hop⟩ := rowOf_some hr
  rw [decode_of_match db (i.operand db) hmem hm hz hmode, hop, attachOperand_operand hi]

/-- Settles O1: a row's own match word is one of the OSVs that match it. -/
theorem decodeOfEncodeIsTheOperation : Obligations.DecodeOfEncodeIsTheOperation := by
  intro db i hi
  obtain ⟨r, hr, hz, -⟩ := Laws.RowSelected.row_selected i.opcode
  obtain ⟨hmem, -⟩ := rowOf_some hr
  have hcode : encode db i = { format := r.format, osv := r.pattern, operand := i.operand db } := by simp [encode, hr]
  rw [hcode]
  exact unmaskedOsvBitsDoNotMatter db i r r.pattern hi hr (pattern_and_mask r hmem) hz (pattern_mode_legal r hmem)

end Sys2Proof.Machine
end

section
/-!
Which OSV bits the decoder reads in each format, and what the rows of each format select from them: the truth tables of
the gate, of the slots and of the other step kinds (R84, R89).
-/

namespace Sys2Proof.Machine

/-- The OSV bits that decoding in a format reads: the masks of the format's rows (R89), the reserved bits (R85) and MODE
(R80). -/
def readMask : Format → Osv
  | .gate => 0xFC00001F
  | .aw => 0xFC00007F
  | .w => 0xFC00019F
  | .ar => 0xFC00061F
  | .pair => 0xFC00781F
  | .drain => 0xFC03801F
  | .arrdy => 0xFC0C001F
  | .r => 0xFC70001F
  | .b => 0xFD80001F
  | .complete => 0xFE00001F
  | .reset => 0xFC00000F
  | .query => 0xFC00000F

theorem mask_and_readMask : ∀ r ∈ rows, readMask r.format &&& r.mask = r.mask := by decide

theorem readMask_reserved (f : Format) : readMask f >>> 26 &&& 0x3F#32 = 0x3F#32 := by cases f <;> decide

theorem readMask_mode (f : Format) : readMask f &&& 3#32 = 3#32 := by cases f <;> decide

/-- Six bits are left above the OSV's bit 25. -/
theorem reserved_and (osv : Osv) : osv >>> 26 &&& 0x3F#32 = osv >>> 26 := by
  refine BitVec.eq_of_toNat_eq ?_
  have hlt : osv.toNat < 2 ^ 32 := osv.isLt
  have hmod : osv.toNat >>> 26 &&& 63 = osv.toNat >>> 26 % 64 := Nat.and_two_pow_sub_one_eq_mod _ 6
  rw [BitVec.toNat_and, BitVec.toNat_ushiftRight, BitVec.toNat_ofNat, Nat.mod_eq_of_lt (by decide), hmod,
    Nat.shiftRight_eq_div_pow]
  omega

theorem selectRow_readMask (f : Format) (osv : Osv) : selectRow f (osv &&& readMask f) = selectRow f osv := by
  refine Option.ext fun r => ?_
  rw [selectRow_eq_some_iff, selectRow_eq_some_iff]
  refine and_congr_right fun hr => and_congr_right fun hf => ?_
  rw [BitVec.and_assoc, ← hf, mask_and_readMask r hr]

/-- The row that the decoder finds for an OSV: the checks of R80 and R83, and the table (R84). -/
def selectedOp (f : Format) (osv : Osv) : Option Opcode :=
  if osv >>> 26 ≠ 0 ∨ (f ≠ .reset ∧ osv &&& 3 = 3) then none else (selectRow f osv).map Row.op

theorem decode_of_selectedOp {f : Format} {osv : Osv} {op : Opcode} (h : selectedOp f osv = some op) (db : Nat)
    (o : Operand) : decode db { format := f, osv := osv, operand := o } = attachOperand db o op := by
  unfold selectedOp at h
  split at h
  · cases h
  · next hlegal =>
    obtain ⟨hz, hmode⟩ := not_or.1 hlegal
    obtain ⟨r, hr, rfl⟩ := Option.map_eq_some_iff.1 h
    simp only [decode, if_neg hz, if_neg hmode, hr]

/-- The decoder reads no OSV bit outside its format's `readMask` (R84). -/
theorem selectedOp_readMask (f : Format) (osv : Osv) : selectedOp f (osv &&& readMask f) = selectedOp f osv := by
  have hreserved : (osv &&& readMask f) >>> 26 = osv >>> 26 := by
    rw [← reserved_and, BitVec.ushiftRight_and_distrib, BitVec.and_assoc, readMask_reserved, reserved_and]
  have hmode : osv &&& readMask f &&& 3 = osv &&& 3 := (BitVec.and_assoc ..).trans (congrArg _ (readMask_mode f))
  simp only [selectedOp, hreserved, hmode, selectRow_readMask]

/-- A single OSV bit under a mask. -/
theorem osvBit_and (i : Nat) (b : Bool) (m : Osv) : osvBit i b &&& m = if m.getLsbD i then osvBit i b else 0 := by
  cases b
  · simp [osvBit]
  · rw [BitVec.and_comm]
    exact BitVec.and_twoPow m i

@[simp] theorem osvBit_false (i : Nat) : osvBit i false = 0 := rfl

/-- The MODE bits under a mask that reads MODE. -/
theorem modeBits_and {m : Osv} (mode : Mode) (h : m &&& 3 = 3) :
    mode.bits.setWidth 32 &&& m = mode.bits.setWidth 32 := by
  have hbits : mode.bits.setWidth 32 = mode.bits.setWidth 32 &&& 3 := by cases mode <;> decide
  rw [hbits, BitVec.and_assoc, BitVec.and_comm 3, h]

/-- The gate (R161, R162). -/
theorem selectedOp_gate (mode : Mode) :
    ∀ fault : Bool, selectedOp .gate (mode.bits.setWidth 32 ||| osvBit 4 fault) =
      some (if fault then .tickFaulted else .tick) := by
  cases mode <;> decide

/-- The AW slot (R102, R103). -/
theorem selectedOp_aw (mode : Mode) :
    ∀ valid ready : Bool, selectedOp .aw (mode.bits.setWidth 32 ||| osvBit 5 valid ||| osvBit 6 ready) =
      some (if !valid then .awIdle else if ready then .awAccept else .awIdleNotready) := by
  cases mode <;> decide

/-- The W slot (R104, R105). -/
theorem selectedOp_w (mode : Mode) :
    ∀ valid ready : Bool, selectedOp .w (mode.bits.setWidth 32 ||| osvBit 7 valid ||| osvBit 8 ready) =
      some (if !valid then .wIdle else if ready then .wAccept else .wIdleNotready) := by
  cases mode <;> decide

/-- The row of a read burst accepted in a mode (R141, R163, R164). -/
def acceptOp : Mode → Opcode
  | .functional => .arAcceptF
  | .atomic => .arAcceptA
  | .timing => .arAcceptT

/-- The AR slot (R141, R163 to R165). -/
theorem selectedOp_ar (mode : Mode) :
    ∀ valid ready : Bool, selectedOp .ar (mode.bits.setWidth 32 ||| osvBit 9 valid ||| osvBit 10 ready) =
      some (if !valid then .arIdle else if ready then acceptOp mode else .arIdleNotready) := by
  cases mode <;> decide

/-- The PAIR slot (R107 to R111). -/
theorem selectedOp_pair (mode : Mode) :
    ∀ awq wq last rem0 : Bool,
      selectedOp .pair (mode.bits.setWidth 32 |||
        (osvBit 11 awq ||| osvBit 12 wq ||| osvBit 13 last ||| osvBit 14 rem0)) =
      some (if !awq then .wpairIdleNoaw else if !wq then .wpairIdleNow
        else if rem0 then if last then .wpairLast else .wfaultMissing
        else if last then .wfaultEarly else .wpairBeat) := by
  cases mode <;> decide

/-- The DRAIN slot in TIMING mode (R144 to R147). -/
theorem selectedOp_drain :
    ∀ oq valid last : Bool,
      selectedOp .drain (Mode.timing.bits.setWidth 32 ||| (osvBit 15 oq ||| osvBit 16 valid ||| osvBit 17 last)) =
      some (if !oq then .drainEmpty else if !valid then .drainWait else if last then .drainLast else .drainBeat) := by
  decide

/-- The ARRDY slot in TIMING mode (R148 to R150). -/
theorem selectedOp_arrdy :
    ∀ window drained : Bool,
      selectedOp .arrdy (Mode.timing.bits.setWidth 32 ||| (osvBit 18 window ||| osvBit 19 drained)) =
      some (if drained then .arrdyTDrained else if window then .arrdyTOpen else .arrdyTFull) := by
  decide

/-- The DRAIN and ARRDY slots in the other modes (R166). -/
theorem selectedOp_skip {mode : Mode} (h : mode ≠ .timing) :
    selectedOp .drain (mode.bits.setWidth 32) = some .drainSkip ∧
    selectedOp .arrdy (mode.bits.setWidth 32) = some .arrdySkip := by
  cases mode <;> revert h <;> decide

/-- The row of the R slot by RREADY, the presented beat's `valid` and PQ_NE (R124 to R126). -/
def rOp (rready valid pq : Bool) : Opcode :=
  if valid && !rready then .rHold
  else if pq then if valid then .rXferShift else .rFreeShift
  else if valid then .rXferFill else .rFreeFill

/-- The R slot (R124 to R126). -/
theorem selectedOp_r (mode : Mode) :
    ∀ rready valid pq : Bool,
      selectedOp .r (mode.bits.setWidth 32 ||| osvBit 21 rready ||| (osvBit 20 valid ||| osvBit 22 pq)) =
      some (rOp rready valid pq) := by
  cases mode <;> decide

/-- A transfer row is the R slot's exactly where a valid beat is taken (R128). -/
theorem rOp_transfers :
    ∀ rready valid pq : Bool, rOp rready valid pq = .rXferShift ∨ rOp rready valid pq = .rXferFill ↔
      valid = true ∧ rready = true := by
  decide

/-- The B slot (R167 to R169). -/
theorem selectedOp_b (mode : Mode) :
    ∀ valid ready : Bool, selectedOp .b (mode.bits.setWidth 32 ||| osvBit 23 valid ||| osvBit 24 ready) =
      some (if !valid then .bIdle else if ready then .bXfer else .bHold) := by
  cases mode <;> decide

/-- A COMPLETE step (R142, R143, R202). -/
theorem selectedOp_complete (mode : Mode) :
    ∀ fault invalid : Bool,
      selectedOp .complete
        (mode.bits.setWidth 32 ||| (1#2).setWidth 32 <<< 2 ||| osvBit 4 fault ||| osvBit 25 invalid) =
      some (if fault then .cplFaulted else if invalid then .cplFill else .cplUnexpected) := by
  cases mode <;> decide

/-- A RESET step (R220, R221), whose MODE bits are the new block's. -/
theorem selectedOp_reset :
    ∀ (m : BitVec 2) (fault : Bool),
      selectedOp .reset (m.setWidth 32 ||| (2#2).setWidth 32 <<< 2 ||| osvBit 4 fault) =
      some (if m = 0 then .resetF else if m = 1 then .resetA else if m = 2 then .resetT else .resetReserved) := by
  decide

/-- A QUERY step (R152). -/
theorem selectedOp_query (mode : Mode) :
    ∀ fault : Bool, selectedOp .query (mode.bits.setWidth 32 ||| (3#2).setWidth 32 <<< 2 ||| osvBit 4 fault) =
      some .queryInflight := by
  cases mode <;> decide

end Sys2Proof.Machine
end

section
/-!
Every environment step selects a row, and every one that the formats can write is carried out.
-/

namespace Sys2Proof.Machine

/-- The row that an environment step selects (R84, R161, R162, R142, R143, R202, R220, R221, R152). -/
def stepOp (x : Stimulus) (s : State) : Opcode :=
  match x with
  | .tick _ _ _ _ => if faulted s then .tickFaulted else .tick
  | .complete a _ => if faulted s then .cplFaulted else if cplMatch s a then .cplFill else .cplUnexpected
  | .reset m _ => if m = 0 then .resetF else if m = 1 then .resetA else if m = 2 then .resetT else .resetReserved
  | .query => .queryInflight

/-- Of the bits that a tick samples at its start, the gate reads MODE and FAULT (R84). -/
theorem osvTickStart_and_gate (awvalid wvalid arvalid rready bready : Bool) (s : State) :
    osvTickStart awvalid wvalid arvalid rready bready s &&& readMask .gate =
      s.cfg.mode.bits.setWidth 32 ||| osvBit 4 (faulted s) := by
  simp [osvTickStart, osvStep, readMask, BitVec.and_or_distrib_right, osvBit_and, modeBits_and]

theorem selectedOp_stimulusCode (x : Stimulus) (s : State) :
    selectedOp (stimulusCode x s).format (stimulusCode x s).osv = some (stepOp x s) := by
  cases x with
  | tick icw aw w ar =>
    rw [← selectedOp_readMask]
    exact (congrArg _ (osvTickStart_and_gate ..)).trans (selectedOp_gate s.cfg.mode (faulted s))
  | complete a bytes => exact selectedOp_complete s.cfg.mode (faulted s) (cplMatch s a)
  | reset m p => exact selectedOp_reset m (faulted s)
  | query => exact selectedOp_query s.cfg.mode (faulted s)

/-- A step's code is read by the row that the step selects (R84). -/
theorem decode_stimulusCode (db : Nat) (x : Stimulus) (s : State) :
    decode db (stimulusCode x s) = attachOperand db (stimulusCode x s).operand (stepOp x s) :=
  decode_of_selectedOp (selectedOp_stimulusCode x s) db _

theorem decodeAddr_ne_noRow (mk : AddrReq → Instr) (o : Operand) : decodeAddr mk o ≠ .error .noRow := by
  cases o <;> simp [decodeAddr]

theorem decodeConfig_ne_noRow (mk : Params → Instr) (o : Operand) : decodeConfig mk o ≠ .error .noRow := by
  cases o <;> simp [decodeConfig]

theorem decodeData_ne_noRow (db : Nat) (o : Operand) : decodeData db o ≠ .error .noRow := by
  cases o with
  | data p => simp only [decodeData]; split <;> simp
  | _ => simp [decodeData]

theorem decodeTick_ne_noRow (db : Nat) (o : Operand) : decodeTick db o ≠ .error .noRow := by
  cases o with
  | cycle icw aw w ar => simp only [decodeTick, decodeCycle]; (repeat' split) <;> simp
  | _ => simp [decodeTick]

theorem decodeCompletion_ne_noRow (db : Nat) (mk : Addr → List Byte → Instr) (o : Operand) :
    decodeCompletion db mk o ≠ .error .noRow := by
  cases o with
  | completion a bytes => simp only [decodeCompletion]; split <;> simp
  | _ => simp [decodeCompletion]

/-- Once a row is selected, reading its operand answers no `noRow`. -/
theorem attachOperand_ne_noRow (db : Nat) (o : Operand) (op : Opcode) : attachOperand db o op ≠ .error .noRow := by
  cases op with
  | tick => exact decodeTick_ne_noRow db o
  | awAccept | arAcceptF | arAcceptA | arAcceptT => exact decodeAddr_ne_noRow _ o
  | wAccept => exact decodeData_ne_noRow db o
  | cplFill | cplUnexpected => exact decodeCompletion_ne_noRow db _ o
  | resetF | resetA | resetT => exact decodeConfig_ne_noRow _ o
  | _ => simp [attachOperand]

/-- Settles O7: the decoder answers no `noRow` for a step's code, and no meaning answers a fault. -/
theorem stepNeverFaults : Obligations.StepNeverFaults := by
  intro s r h
  have hd : decode s.cfg.dataBytes (fetchCode s) ≠ .error .noRow := by
    rw [fetchCode, decode_stimulusCode]
    exact attachOperand_ne_noRow _ _ _
  unfold step at h
  split at h
  · exact exec_ne_fault _ _ _ h
  · next he => exact hd he
  · cases h

@[simp] theorem cplMatch_fetchState (s : State) (a : Addr) : cplMatch (fetchState s) a = cplMatch s a := by
  rw [fetchState_frame]; rfl

/-- TICK is carried out in an unfaulted block (R161). -/
theorem exec_tick {s : State} (inp : Inputs) (hf : faulted s = false) :
    exec (.tick inp) s = .next (evaluate inp s) := by
  simp [exec, execTick, hf]

/-- A legal RESET is carried out in every state (R220). -/
theorem resetTo_of_legal {p : Params} (m : Mode) (s : State) (hl : p.legal = true) :
    resetTo m p s = .next (buildBlock { toParams := p, mode := m } s) := if_pos hl

/-- A cycle that the formats can write is read (R71, R86). -/
theorem decodeCycle_of_writable {db : Nat} {icw : BitVec 6} {aw ar : BitVec 80} {w : Nat}
    (h : Writable db (.tick icw aw w ar)) :
    decodeCycle db icw aw w ar = .ok (.tick (unpackInputs db icw aw w ar)) := by
  have hfits : ¬ (icw.getLsbD 1 && !fitsW db w) = true := by
    cases hv : icw.getLsbD 1
    · simp
    · simp [fitsW, (h hv).1]
  have hlast : ¬ (icw.getLsbD 1 && icw.getLsbD 2 != w.testBit (9 * db)) = true := by
    cases hv : icw.getLsbD 1
    · simp
    · rw [(h hv).2]; simp
  rw [decodeCycle, if_neg hfits, if_neg hlast]

/-- The row that a writable environment step selects reads its operand and is carried out, in any state with the same
fault bit and completion match. -/
theorem stepOp_completes {db : Nat} {x : Stimulus} {s u : State} (hx : Writable db x) (hf : faulted u = faulted s)
    (hm : ∀ a, cplMatch u a = cplMatch s a) :
    ∃ i t, attachOperand db (stimulusCode x s).operand (stepOp x s) = .ok i ∧ exec i u = .next t := by
  cases x with
  | tick icw aw w ar =>
    cases hs : faulted s <;> rw [hs] at hf <;> simp only [stepOp, hs]
    · exact ⟨_, _, decodeCycle_of_writable hx, exec_tick _ hf⟩
    · exact ⟨.tickFaulted, u, rfl, if_pos hf⟩
  | complete a bytes =>
    cases hs : faulted s <;> rw [hs] at hf <;> simp only [stepOp, hs]
    · cases hc : cplMatch s a
      · exact ⟨.cplUnexpected a, _, if_pos hx, by simp [exec, execCplUnexpected, hf, hm, hc]; rfl⟩
      · exact ⟨.cplFill a bytes, _, if_pos hx, by simp [exec, execCplFill, hf, hm, hc]; rfl⟩
    · exact ⟨.cplFaulted, u, rfl, if_pos hf⟩
  | reset m p =>
    obtain ⟨hmode, hl⟩ := hx
    have hlegal : m = 0 ∨ m = 1 ∨ m = 2 := by revert m; decide
    obtain rfl | rfl | rfl := hlegal
    · exact ⟨.resetF p, _, rfl, resetTo_of_legal .functional u hl⟩
    · exact ⟨.resetA p, _, rfl, resetTo_of_legal .atomic u hl⟩
    · exact ⟨.resetT p, _, rfl, resetTo_of_legal .timing u hl⟩
  | query => exact ⟨.queryInflight, _, rfl, rfl⟩

/-- Settles O8: the fetch keeps the fault and the pending table, so the selected row is carried out in the fetched
state. -/
theorem writableStepsComplete : Obligations.WritableStepsComplete := by
  intro s x xs hstim hx
  have hnext : nextStimulus s = x := by simp [nextStimulus, hstim]
  obtain ⟨i, t, hi, ht⟩ := stepOp_completes hx (faulted_fetchState s) (cplMatch_fetchState s)
  exact ⟨t, by simp only [step, fetchCode, hnext, decode_stimulusCode, hi, ht]⟩

end Sys2Proof.Machine
end

section
/-!
The row that each slot of an unfaulted tick selects, and that its meaning is the slot's (R84: "The table and the rules
must agree").
-/

namespace Sys2Proof.Machine

variable {inp : Inputs} {s : State}

/-- The OSV of a tick's start under a mask that reads MODE, bit by bit (R83). -/
theorem tickStartOsv_and {m : Osv} (hm : m &&& 3 = 3) :
    tickStartOsv inp s &&& m =
      s.cfg.mode.bits.setWidth 32 ||| osvBit 4 (faulted s) &&& m ||| osvBit 5 inp.awvalid &&& m |||
        osvBit 6 s.awready &&& m ||| osvBit 7 inp.wvalid &&& m ||| osvBit 8 s.wready &&& m |||
        osvBit 9 inp.arvalid &&& m ||| osvBit 10 s.arready &&& m ||| osvBit 21 inp.rready &&& m |||
        osvBit 23 s.bvalid &&& m ||| osvBit 24 inp.bready &&& m := by
  simp [tickStartOsv, osvTickStart, osvStep, BitVec.and_or_distrib_right, modeBits_and _ hm]

/-- What the table selects in a slot whose OSV is assembled in the slot's own state. -/
def slotSelects (inp : Inputs) (s : State) (f : Format) : Option Opcode :=
  selectedOp f (tickStartOsv inp s ||| osvSlot f s)

/-- A slot's selection, with the OSV cut down to the bits that its format reads. -/
theorem slotSelects_eq {f : Format} {osv : Osv}
    (h : tickStartOsv inp s &&& readMask f ||| osvSlot f s &&& readMask f = osv) :
    slotSelects inp s f = selectedOp f osv := by
  rw [slotSelects, ← selectedOp_readMask, BitVec.and_or_distrib_right, h]

theorem slotSelects_aw (hf : faulted s = false) :
    slotSelects inp s .aw =
      some (if !inp.awvalid then .awIdle else if s.awready then .awAccept else .awIdleNotready) := by
  refine (slotSelects_eq ?_).trans (selectedOp_aw s.cfg.mode inp.awvalid s.awready)
  simp [tickStartOsv_and, osvSlot, readMask, osvBit_and, hf]

theorem slotSelects_w (hf : faulted s = false) :
    slotSelects inp s .w = some (if !inp.wvalid then .wIdle else if s.wready then .wAccept else .wIdleNotready) := by
  refine (slotSelects_eq ?_).trans (selectedOp_w s.cfg.mode inp.wvalid s.wready)
  simp [tickStartOsv_and, osvSlot, readMask, osvBit_and, hf]

theorem slotSelects_ar (hf : faulted s = false) :
    slotSelects inp s .ar =
      some (if !inp.arvalid then .arIdle else if s.arready then acceptOp s.cfg.mode else .arIdleNotready) := by
  refine (slotSelects_eq ?_).trans (selectedOp_ar s.cfg.mode inp.arvalid s.arready)
  simp [tickStartOsv_and, osvSlot, readMask, osvBit_and, hf]

theorem slotSelects_pair (hf : faulted s = false) :
    slotSelects inp s .pair =
      some (if !awqNe s then .wpairIdleNoaw else if !wqNe s then .wpairIdleNow
        else if awhRem0 s then if whLast s then .wpairLast else .wfaultMissing
        else if whLast s then .wfaultEarly else .wpairBeat) := by
  refine (slotSelects_eq ?_).trans (selectedOp_pair s.cfg.mode (awqNe s) (wqNe s) (whLast s) (awhRem0 s))
  simp [tickStartOsv_and, osvSlot, readMask, BitVec.and_or_distrib_right, osvBit_and, hf]

/-- Outside TIMING mode the DRAIN and ARRDY slots sample no bit (R84, log 16). -/
theorem slotSelects_skip (hf : faulted s = false) (hm : s.cfg.mode ≠ .timing) :
    slotSelects inp s .drain = some .drainSkip ∧ slotSelects inp s .arrdy = some .arrdySkip := by
  constructor
  · refine (slotSelects_eq ?_).trans (selectedOp_skip hm).1
    simp [tickStartOsv_and, osvSlot, readMask, osvBit_and, hf, hm]
  · refine (slotSelects_eq ?_).trans (selectedOp_skip hm).2
    simp [tickStartOsv_and, osvSlot, readMask, osvBit_and, hf, hm]

theorem slotSelects_drain (hf : faulted s = false) (hm : s.cfg.mode = .timing) :
    slotSelects inp s .drain =
      some (if !oqNe s then .drainEmpty else if !ohValid s then .drainWait
        else if ohLast s then .drainLast else .drainBeat) := by
  refine (slotSelects_eq ?_).trans (selectedOp_drain (oqNe s) (ohValid s) (ohLast s))
  simp [tickStartOsv_and, osvSlot, readMask, BitVec.and_or_distrib_right, osvBit_and, hf, hm]

theorem slotSelects_arrdy (hf : faulted s = false) (hm : s.cfg.mode = .timing) :
    slotSelects inp s .arrdy =
      some (if s.drained then .arrdyTDrained else if winOk s then .arrdyTOpen else .arrdyTFull) := by
  refine (slotSelects_eq ?_).trans (selectedOp_arrdy (winOk s) s.drained)
  simp [tickStartOsv_and, osvSlot, readMask, BitVec.and_or_distrib_right, osvBit_and, hf, hm]

theorem slotSelects_r (hf : faulted s = false) :
    slotSelects inp s .r = some (rOp inp.rready s.rout.valid (pqNe s)) := by
  refine (slotSelects_eq ?_).trans (selectedOp_r s.cfg.mode inp.rready s.rout.valid (pqNe s))
  simp [tickStartOsv_and, osvSlot, readMask, BitVec.and_or_distrib_right, osvBit_and, hf]

theorem slotSelects_b (hf : faulted s = false) :
    slotSelects inp s .b = some (if !s.bvalid then .bIdle else if inp.bready then .bXfer else .bHold) := by
  refine (slotSelects_eq ?_).trans (selectedOp_b s.cfg.mode s.bvalid inp.bready)
  simp [tickStartOsv_and, osvSlot, readMask, osvBit_and, hf]

/-- The row that a slot's table selects reads the slot's operand, and executed it answers `t` (R84). -/
def SlotRuns (inp : Inputs) (s : State) (f : Format) (t : State) : Prop :=
  ∃ i : Instr, slotSelects inp s f = some i.opcode ∧
    attachOperand s.cfg.dataBytes (slotOperand s.cfg.dataBytes f inp) i.opcode = .ok i ∧ exec i s = .next t

theorem slotRuns_aw (hf : faulted s = false) : SlotRuns inp s .aw (awSlot inp s) := by
  have hsel := slotSelects_aw (inp := inp) hf
  unfold awSlot
  cases hv : inp.awvalid with
  | false =>
    rw [hv] at hsel
    exact ⟨.awIdle, hsel, rfl, rfl⟩
  | true =>
    cases hr : s.awready <;> rw [hv, hr] at hsel
    · exact ⟨.awIdleNotready, hsel, rfl, rfl⟩
    · exact ⟨.awAccept inp.aw, hsel, attachOperand_operand (i := .awAccept inp.aw) rfl, rfl⟩

theorem slotRuns_w (hf : faulted s = false) (hw : inp.wellFormed s.cfg.dataBytes = true) :
    SlotRuns inp s .w (wSlot inp s) := by
  have hsel := slotSelects_w (inp := inp) hf
  unfold wSlot
  cases hv : inp.wvalid with
  | false =>
    rw [hv] at hsel
    exact ⟨.wIdle, hsel, rfl, rfl⟩
  | true =>
    cases hr : s.wready <;> rw [hv, hr] at hsel
    · exact ⟨.wIdleNotready, hsel, rfl, rfl⟩
    · exact ⟨.wAccept inp.w, hsel, attachOperand_operand (i := .wAccept inp.w) hw, rfl⟩

theorem slotRuns_ar (hf : faulted s = false) : SlotRuns inp s .ar (arSlot inp s) := by
  have hsel := slotSelects_ar (inp := inp) hf
  unfold arSlot
  cases hv : inp.arvalid with
  | false =>
    rw [hv] at hsel
    exact ⟨.arIdle, hsel, rfl, rfl⟩
  | true =>
    cases hr : s.arready with
    | false =>
      rw [hv, hr] at hsel
      exact ⟨.arIdleNotready, hsel, rfl, rfl⟩
    | true =>
      rw [hv, hr] at hsel
      cases hm : s.cfg.mode <;> rw [hm] at hsel
      · exact ⟨.arAcceptF inp.ar, hsel, attachOperand_operand (i := .arAcceptF inp.ar) rfl, rfl⟩
      · exact ⟨.arAcceptA inp.ar, hsel, attachOperand_operand (i := .arAcceptA inp.ar) rfl, rfl⟩
      · exact ⟨.arAcceptT inp.ar, hsel, attachOperand_operand (i := .arAcceptT inp.ar) rfl, rfl⟩

theorem slotRuns_pair (hf : faulted s = false) : SlotRuns inp s .pair (pairSlot s) := by
  have hsel := slotSelects_pair (inp := inp) hf
  obtain ⟨hidle, h⟩ | ⟨e, es, w, ws, ha, hw, ⟨hr, hl, h⟩ | ⟨hr, hl, h⟩ | ⟨hr, hl, h⟩ | ⟨hr, hl, h⟩⟩ :=
    pairSlot_cases s <;> rw [h]
  · cases ha : s.awq with
    | nil => exact ⟨.wpairIdleNoaw, by simpa [Instr.opcode, awqNe, ha] using hsel, rfl, rfl⟩
    | cons e es =>
      have hw : s.wq = [] := by simpa [ha] using hidle
      exact ⟨.wpairIdleNow, by simpa [Instr.opcode, awqNe, wqNe, ha, hw] using hsel, rfl, rfl⟩
  all_goals simp only [awqNe, wqNe, whLast, awhRem0, ha, hw, hr, hl] at hsel
  · exact ⟨.wpairLast, hsel, rfl, by simp [exec, execWpairLast, ha, hw]⟩
  · exact ⟨.wfaultMissing, hsel, rfl, rfl⟩
  · exact ⟨.wfaultEarly, by simpa [Instr.opcode] using hsel, rfl, rfl⟩
  · exact ⟨.wpairBeat, by simpa [Instr.opcode] using hsel, rfl, by simp [exec, execWpairBeat, ha, hw]⟩

theorem slotRuns_drain (hf : faulted s = false) : SlotRuns inp s .drain (drainSlot s) := by
  by_cases hm : s.cfg.mode = .timing
  · have hsel := slotSelects_drain (inp := inp) hf hm
    rw [drainSlot_timing hm, drainTiming]
    cases ho : s.oq with
    | nil => exact ⟨.drainEmpty, by simpa [Instr.opcode, oqNe, ho] using hsel, rfl, rfl⟩
    | cons a as =>
      simp only [oqNe, ohValid, ohLast, headBeat, ho] at hsel
      cases hp : pendingAt s a with
      | nil => exact ⟨.drainWait, by simpa [Instr.opcode, hp] using hsel, rfl, by simp [exec, execDrainWait, hp]⟩
      | cons e es =>
        simp only [hp, List.head?_cons] at hsel ⊢
        cases hv : e.valid with
        | false => exact ⟨.drainWait, by simpa [Instr.opcode, hv] using hsel, rfl, rfl⟩
        | true =>
          cases hl : e.last <;> rw [hv, hl] at hsel
          · exact ⟨.drainBeat, hsel, rfl, by simp [exec, execDrainBeat, ho, hp]⟩
          · exact ⟨.drainLast, hsel, rfl, by simp [exec, execDrainLast, ho, hp]⟩
  · rw [(drain_arrdy_skip hm).1]
    exact ⟨.drainSkip, (slotSelects_skip hf hm).1, rfl, rfl⟩

theorem slotRuns_arrdy (hf : faulted s = false) : SlotRuns inp s .arrdy (arrdySlot s) := by
  by_cases hm : s.cfg.mode = .timing
  · have hsel := slotSelects_arrdy (inp := inp) hf hm
    simp only [arrdySlot, hm]
    cases hd : s.drained with
    | true =>
      rw [hd] at hsel
      exact ⟨.arrdyTDrained, hsel, rfl, rfl⟩
    | false =>
      cases hw : winOk s <;> rw [hd, hw] at hsel
      · exact ⟨.arrdyTFull, hsel, rfl, rfl⟩
      · exact ⟨.arrdyTOpen, hsel, rfl, rfl⟩
  · rw [(drain_arrdy_skip hm).2]
    exact ⟨.arrdySkip, (slotSelects_skip hf hm).2, rfl, rfl⟩

theorem slotRuns_r (hf : faulted s = false) : SlotRuns inp s .r (rSlot inp s) := by
  have hsel := slotSelects_r (inp := inp) hf
  obtain ⟨hv, hr, h⟩ | ⟨hready, hmoves⟩ := rSlot_cases inp s
  · rw [hv, hr] at hsel
    exact ⟨.rHold, hsel, rfl, congrArg _ h.symm⟩
  · have hmove : (s.rout.valid && !inp.rready) = false := by simpa [or_iff_not_imp_left] using hready
    obtain ⟨hq, h⟩ | ⟨x, xs, hq, h⟩ := hmoves <;> rw [rOp, hmove, pqNe, hq] at hsel <;> rw [h]
    · cases hv : s.rout.valid <;> rw [hv] at hsel
      · exact ⟨.rFreeFill, hsel, rfl, rfl⟩
      · exact ⟨.rXferFill, hsel, rfl, rfl⟩
    · cases hv : s.rout.valid <;> rw [hv] at hsel
      · exact ⟨.rFreeShift, hsel, rfl, by simp [exec, execRFreeShift, hq]⟩
      · exact ⟨.rXferShift, hsel, rfl, by simp [exec, execRXferShift, hq]⟩

theorem slotRuns_b (hf : faulted s = false) : SlotRuns inp s .b (bSlot inp s) := by
  have hsel := slotSelects_b (inp := inp) hf
  unfold bSlot
  cases hv : s.bvalid with
  | false =>
    rw [hv] at hsel
    exact ⟨.bIdle, hsel, rfl, rfl⟩
  | true =>
    cases hr : inp.bready <;> rw [hv, hr] at hsel
    · exact ⟨.bHold, hsel, rfl, rfl⟩
    · exact ⟨.bXfer, hsel, rfl, rfl⟩

end Sys2Proof.Machine
end

section
/-!
A slot decides OSV bits that no later slot reads, so that the OSV assembled from the tick's start on is, in each slot, the
one of the slot's own state (R83). With the slots' rows this makes the tick the table's.
-/

namespace Sys2Proof.Machine

variable {inp : Inputs} {s t : State}

/-- The effect of a slot (R161). -/
def slotEffect (inp : Inputs) (s : State) : Format → State
  | .aw => awSlot inp s
  | .w => wSlot inp s
  | .ar => arSlot inp s
  | .pair => pairSlot s
  | .drain => drainSlot s
  | .arrdy => arrdySlot s
  | .r => rSlot inp s
  | .b => bSlot inp s
  | .gate | .complete | .reset | .query => s

/-- The OSV bits that a slot decides: those that it samples, and those of the VALID and READY registers that it drives
(R83). -/
def slotBits : Format → List Nat
  | .aw => [6]
  | .w => [8]
  | .ar => [10]
  | .pair => [11, 12, 13, 14]
  | .drain => [15, 16, 17]
  | .arrdy => [10, 18, 19]
  | .r => [20, 22]
  | .b => [23]
  | .gate | .complete | .reset | .query => []

/-- A mask that holds none of the bits that a slot decides. -/
def Misses (f : Format) (m : Osv) : Prop := ∀ i ∈ slotBits f, m.getLsbD i = false

/-- No slot reads a bit that an earlier slot decides (R83, R84). -/
theorem slotOrder_misses : slotOrder.Pairwise fun f g => Misses f (readMask g) := by unfold Misses; decide

theorem osvBit_and_eq_zero {i : Nat} {b : Bool} {m : Osv} (h : m.getLsbD i = false) : osvBit i b &&& m = 0 := by
  rw [osvBit_and, h]; rfl

theorem osvSlot_and_of_misses {f : Format} {m : Osv} (h : Misses f m) : osvSlot f s &&& m = 0 := by
  have hbit {i : Nat} {b : Bool} (hi : i ∈ slotBits f) : osvBit i b &&& m = 0 := osvBit_and_eq_zero (h i hi)
  cases f with
  | pair =>
    simp only [osvSlot, BitVec.and_or_distrib_right, hbit (i := 11) (by decide), hbit (i := 12) (by decide),
      hbit (i := 13) (by decide), hbit (i := 14) (by decide)]
    rfl
  | drain =>
    simp only [osvSlot]
    split
    · simp only [BitVec.and_or_distrib_right, hbit (i := 15) (by decide), hbit (i := 16) (by decide),
        hbit (i := 17) (by decide)]
      rfl
    · exact BitVec.zero_and
  | arrdy =>
    simp only [osvSlot]
    split
    · simp only [BitVec.and_or_distrib_right, hbit (i := 18) (by decide), hbit (i := 19) (by decide)]
      rfl
    · exact BitVec.zero_and
  | r =>
    simp only [osvSlot, BitVec.and_or_distrib_right, hbit (i := 20) (by decide), hbit (i := 22) (by decide)]
    rfl
  | gate | aw | w | ar | b | complete | reset | query => exact BitVec.zero_and

/-- Of the registers that a tick's start samples, a slot drives those of its `slotBits` at most. -/
theorem slotEffect_registers (inp : Inputs) (s : State) (f : Format) :
    (slotEffect inp s f).cfg = s.cfg ∧
    (6 ∉ slotBits f → (slotEffect inp s f).awready = s.awready) ∧
    (8 ∉ slotBits f → (slotEffect inp s f).wready = s.wready) ∧
    (10 ∉ slotBits f → (slotEffect inp s f).arready = s.arready) ∧
    (23 ∉ slotBits f → (slotEffect inp s f).bvalid = s.bvalid) := by
  cases f with
  | aw => rw [slotEffect, awSlot_frame]; simp [slotBits]
  | w => rw [slotEffect, wSlot_frame]; simp [slotBits]
  | ar => rw [slotEffect, arSlot_frame]; simp [slotBits]
  | pair => rw [slotEffect, pairSlot_frame]; simp
  | drain => rw [slotEffect, drainSlot_frame]; simp
  | arrdy => rw [slotEffect, arrdySlot_frame]; simp [slotBits]
  | r => rw [slotEffect, rSlot_frame]; simp
  | b => rw [slotEffect, bSlot_frame]; simp [slotBits]
  | gate | complete | reset | query => simp [slotEffect]

/-- PAIR is the one slot that raises a fault (R109, R110, R201). -/
theorem faulted_slotEffect {f : Format} (h : f ≠ .pair) : faulted (slotEffect inp s f) = faulted s := by
  cases f with
  | aw => rw [slotEffect, awSlot_frame]; rfl
  | w => rw [slotEffect, wSlot_frame]; rfl
  | ar => rw [slotEffect, arSlot_frame]; rfl
  | pair => exact absurd rfl h
  | drain => rw [slotEffect, drainSlot_frame]; rfl
  | arrdy => rw [slotEffect, arrdySlot_frame]; rfl
  | r => rw [slotEffect, rSlot_frame]; rfl
  | b => rw [slotEffect, bSlot_frame]; rfl
  | gate | complete | reset | query => rfl

theorem osvBit_and_congr {i : Nat} {a b : Bool} {m : Osv} (h : m.getLsbD i = true → a = b) :
    osvBit i a &&& m = osvBit i b &&& m := by
  rw [osvBit_and, osvBit_and]
  split
  · next hi => rw [h hi]
  · rfl

/-- A slot that raises no fault changes no bit of the tick's start but those that it decides. -/
theorem tickStartOsv_slotEffect {f : Format} {m : Osv} (hm : m &&& 3 = 3) (hmiss : Misses f m)
    (hf : faulted (slotEffect inp s f) = faulted s) :
    tickStartOsv inp (slotEffect inp s f) &&& m = tickStartOsv inp s &&& m := by
  obtain ⟨hcfg, haw, hw, har, hb⟩ := slotEffect_registers inp s f
  have hnot {i : Nat} (hi : m.getLsbD i = true) : i ∉ slotBits f := fun hmem => by simp [hmiss i hmem] at hi
  rw [tickStartOsv_and hm, tickStartOsv_and hm, hcfg, hf, osvBit_and_congr fun hi => haw (hnot hi),
    osvBit_and_congr fun hi => hw (hnot hi), osvBit_and_congr fun hi => har (hnot hi),
    osvBit_and_congr fun hi => hb (hnot hi)]

theorem slotRuns_slotEffect {f : Format} (h : f ∈ slotOrder) (hf : faulted s = false)
    (hw : inp.wellFormed s.cfg.dataBytes = true) : SlotRuns inp s f (slotEffect inp s f) := by
  cases f with
  | aw => exact slotRuns_aw hf
  | w => exact slotRuns_w hf hw
  | ar => exact slotRuns_ar hf
  | pair => exact slotRuns_pair hf
  | drain => exact slotRuns_drain hf
  | arrdy => exact slotRuns_arrdy hf
  | r => exact slotRuns_r hf
  | b => exact slotRuns_b hf
  | gate | complete | reset | query => exact absurd h (by decide)

theorem runSlots_of_faulted {fs : List Format} {osv : Osv} (hf : faulted s = true) :
    runSlots inp fs osv s = .next s := by
  cases fs with
  | nil => rfl
  | cons f fs => exact if_pos hf

/-- A slot whose OSV is the one of the slot's own state runs its selected row. -/
theorem runSlots_cons {f : Format} {fs : List Format} {osv : Osv} (hf : faulted s = false)
    (hosv : osv &&& readMask f = tickStartOsv inp s &&& readMask f) (h : SlotRuns inp s f t) :
    runSlots inp (f :: fs) osv s = runSlots inp fs (osv ||| osvSlot f s) t := by
  obtain ⟨i, hsel, hi, he⟩ := h
  have hop : selectedOp f (osv ||| osvSlot f s) = some i.opcode := by
    rw [← selectedOp_readMask, BitVec.and_or_distrib_right, hosv, ← BitVec.and_or_distrib_right, selectedOp_readMask]
    exact hsel
  have hd : decode s.cfg.dataBytes (slotCode inp f osv s) = .ok i := (decode_of_selectedOp hop _ _).trans hi
  simp only [runSlots, hf, hd, he, Bool.false_eq_true, if_false]

/-- The slots `fs` run directly, up to a fault (R161, R201). -/
def runEffects (inp : Inputs) : List Format → State → State
  | [], s => s
  | f :: fs, s => if faulted s then s else runEffects inp fs (slotEffect inp s f)

theorem runEffects_of_faulted {fs : List Format} (hf : faulted s = true) : runEffects inp fs s = s := by
  cases fs with
  | nil => rfl
  | cons f fs => exact if_pos hf

/-- Slots in order, none of which reads what an earlier one decides, run by the table as they run directly. -/
theorem runSlots_eq_runEffects {fs : List Format} {osv : Osv} (hfs : fs ⊆ slotOrder)
    (horder : fs.Pairwise fun f g => Misses f (readMask g)) (hw : inp.wellFormed s.cfg.dataBytes = true)
    (hosv : ∀ g ∈ fs, osv &&& readMask g = tickStartOsv inp s &&& readMask g) :
    runSlots inp fs osv s = .next (runEffects inp fs s) := by
  induction fs generalizing osv s with
  | nil => rfl
  | cons f fs ih =>
    cases hf : faulted s with
    | true => rw [runSlots_of_faulted hf, runEffects_of_faulted hf]
    | false =>
      obtain ⟨hf_mem, hfs⟩ := List.cons_subset.1 hfs
      obtain ⟨hmiss, horder⟩ := List.pairwise_cons.1 horder
      obtain ⟨hosv_f, hosv⟩ := List.forall_mem_cons.1 hosv
      rw [runSlots_cons hf hosv_f (slotRuns_slotEffect hf_mem hf hw), runEffects, if_neg (by simp [hf])]
      cases hf' : faulted (slotEffect inp s f) with
      | true => rw [runSlots_of_faulted hf', runEffects_of_faulted hf']
      | false =>
        refine ih hfs horder (by rwa [(slotEffect_registers inp s f).1]) fun g hg => ?_
        rw [BitVec.and_or_distrib_right, osvSlot_and_of_misses (hmiss g hg), hosv g hg,
          tickStartOsv_slotEffect (readMask_mode g) (hmiss g hg) (hf'.trans hf.symm)]
        exact BitVec.or_zero

/-- The eight slots, up to a fault, are the tick's evaluation: PAIR alone can end it (R161, R201). -/
theorem runEffects_slotOrder (hf : faulted s = false) : runEffects inp slotOrder s = evaluate inp s := by
  have hfront : runEffects inp slotOrder s = runEffects inp [.drain, .arrdy, .r, .b] (evaluateFront inp s) := by
    simp only [slotOrder, runEffects, faulted_slotEffect, hf, ne_eq, reduceCtorEq, not_false_eq_true, Bool.false_eq_true,
      if_false]
    rfl
  rw [hfront, evaluate]
  cases hend : faulted (evaluateFront inp s) with
  | true => exact runEffects_of_faulted hend
  | false =>
    simp only [runEffects, faulted_slotEffect, hend, ne_eq, reduceCtorEq, not_false_eq_true, Bool.false_eq_true, if_false]
    rfl

/-- Settles O11: the eight slots in order run by the table as they run directly, from the OSV of the tick's start on. -/
theorem tickIsTableDriven : Obligations.TickIsTableDriven := by
  intro inp s hfault hw
  have hf : faulted s = false := by simp [faulted, hfault]
  rw [exec_tick inp hf, ← runEffects_slotOrder hf]
  exact runSlots_eq_runEffects (List.Subset.refl _) slotOrder_misses hw fun _ _ => rfl

end Sys2Proof.Machine
end

section
/-!
Delivery by the transfer rows of the R slot (R128): what the OSV of a whole tick selects there.
-/

namespace Sys2Proof.Machine

variable {inp : Inputs} {s : State}

/-- The state in which a tick's R slot runs, if a fault does not end the tick before. -/
def beforeR (inp : Inputs) (s : State) : State := arrdySlot (drainSlot (evaluateFront inp s))

theorem beforeR_frame (inp : Inputs) (s : State) :
    (beforeR inp s).cfg = s.cfg ∧ (beforeR inp s).rout = s.rout ∧ (beforeR inp s).lq = s.lq ∧
      faulted (beforeR inp s) = faulted (evaluateFront inp s) := by
  rw [beforeR, arrdySlot_frame, drainSlot_frame]
  exact ⟨(evaluateFront_slotFrame inp s).cfg, evaluateFront_rout inp s, evaluateFront_lq inp s, rfl⟩

theorem selectRow_of_selectedOp {f : Format} {osv : Osv} {op : Opcode} (h : selectedOp f osv = some op) :
    (selectRow f osv).map Row.op = some op := by
  unfold selectedOp at h
  split at h
  · cases h
  · exact h

/-- With FAULT set no R row is selected (R84, R162). -/
theorem selectRow_r_faulted (mode : Mode) :
    ∀ rready : Bool, selectRow .r (mode.bits.setWidth 32 ||| osvBit 4 true ||| osvBit 21 rready) = none := by
  cases mode <;> decide

/-- The slots before R decide no bit that R reads. -/
theorem misses_readMask_r : ∀ f ∈ [Format.pair, .drain, .arrdy], Misses f (readMask .r) := by unfold Misses; decide

/-- What the R slot reads of the slots' bits: its own, where the tick reaches it (R83, log 16). -/
theorem slotsOsv_and_r (inp : Inputs) (s : State) :
    slotsOsv inp s &&& readMask .r =
      if faulted (evaluateFront inp s) then 0 else osvBit 20 s.rout.valid ||| osvBit 22 (pqNe (beforeR inp s)) := by
  obtain ⟨-, hrout, -, -⟩ := beforeR_frame inp s
  have hr : osvSlot .r (beforeR inp s) &&& readMask .r = osvBit 20 s.rout.valid ||| osvBit 22 (pqNe (beforeR inp s)) := by
    simp [osvSlot, readMask, BitVec.and_or_distrib_right, osvBit_and, hrout]
  rw [slotsOsv, ← beforeR, BitVec.and_or_distrib_right, osvSlot_and_of_misses (misses_readMask_r _ (by decide))]
  cases faulted (evaluateFront inp s) with
  | true => simp
  | false =>
    simp only [Bool.false_eq_true, if_false, BitVec.and_or_distrib_right, hr,
      osvSlot_and_of_misses (misses_readMask_r .drain (by decide)),
      osvSlot_and_of_misses (misses_readMask_r .arrdy (by decide))]
    simp

/-- What the R slot reads of a tick's OSV: MODE, FAULT and RREADY from its start, and the slots' bits where they run. -/
theorem tickOsv_and_r (inp : Inputs) (s : State) :
    tickOsv inp s &&& readMask .r =
      s.cfg.mode.bits.setWidth 32 ||| osvBit 4 (faulted s) ||| osvBit 21 inp.rready |||
        (if faulted s then 0 else slotsOsv inp s &&& readMask .r) := by
  have hstart : tickStartOsv inp s &&& readMask .r =
      s.cfg.mode.bits.setWidth 32 ||| osvBit 4 (faulted s) ||| osvBit 21 inp.rready := by
    simp [tickStartOsv_and, readMask, osvBit_and]
  rw [tickOsv, BitVec.and_or_distrib_right, hstart]
  cases faulted s <;> simp

/-- The R row that a tick's OSV selects: none in a faulted block, the row of zero bits in a tick that PAIR ends, and the
R slot's own row otherwise (R84, R124 to R126). -/
theorem selectRow_tickOsv_r (inp : Inputs) (s : State) :
    (selectRow .r (tickOsv inp s)).map Row.op =
      if faulted s then none
      else if faulted (evaluateFront inp s) then some .rFreeFill
      else some (rOp inp.rready s.rout.valid (pqNe (beforeR inp s))) := by
  rw [← selectRow_readMask, tickOsv_and_r, slotsOsv_and_r]
  cases faulted s with
  | true => simp [selectRow_r_faulted]
  | false =>
    cases faulted (evaluateFront inp s) with
    | true =>
      have h := selectRow_of_selectedOp (selectedOp_r s.cfg.mode inp.rready false false)
      simpa [rOp] using h
    | false =>
      have h := selectRow_of_selectedOp (selectedOp_r s.cfg.mode inp.rready s.rout.valid (pqNe (beforeR inp s)))
      simpa using h

/-- A tick's OSV selects a transfer row exactly when its R slot runs with a valid beat that is taken. -/
theorem transfer_row_iff (inp : Inputs) (s : State) :
    (∃ r, selectRow .r (tickOsv inp s) = some r ∧ (r.op = .rXferShift ∨ r.op = .rXferFill)) ↔
      faulted s = false ∧ faulted (evaluateFront inp s) = false ∧ s.rout.valid = true ∧ inp.rready = true := by
  have hop : (∃ r, selectRow .r (tickOsv inp s) = some r ∧ (r.op = .rXferShift ∨ r.op = .rXferFill)) ↔
      ∃ op, (selectRow .r (tickOsv inp s)).map Row.op = some op ∧ (op = .rXferShift ∨ op = .rXferFill) := by
    simp [Option.map_eq_some_iff]
  rw [hop, selectRow_tickOsv_r]
  cases faulted s with
  | true => simp
  | false =>
    cases faulted (evaluateFront inp s) with
    | true => simp
    | false => simpa using rOp_transfers inp.rready s.rout.valid (pqNe (beforeR inp s))

/-- The advance of the R slot: the presented beat makes room, and the queue's head or a FILL sentinel is shifted in (R120,
R124, R125). -/
theorem advance_order (s : State) :
    (advance s).rout :: (advance s).lq = s.lq ++ [s.pq.head?.getD (fillBeat s.cfg.nwords)] ∧
      (advance s).pq = s.pq.tail := by
  unfold advance
  cases hq : s.pq with
  | nil => exact ⟨shift_order _ s, by simp [advanceFill, hq]⟩
  | cons x xs => exact ⟨shift_order x _, by simp [advanceWith]⟩

/-- What a tick that delivers leaves in the pipeline (R128): its R slot advances. -/
theorem evaluate_of_delivered (hfront : faulted (evaluateFront inp s) = false) (hready : inp.rready = true) :
    (evaluate inp s).rout = (advance (beforeR inp s)).rout ∧ (evaluate inp s).lq = (advance (beforeR inp s)).lq ∧
      (evaluate inp s).pq = (advance (beforeR inp s)).pq := by
  have hslot : rSlot inp (beforeR inp s) = advance (beforeR inp s) := by simp [rSlot, hready]
  have heval : evaluate inp s = bSlot inp (rSlot inp (beforeR inp s)) := by
    rw [evaluate, hfront]; rfl
  rw [heval, hslot, bSlot_frame]
  exact ⟨rfl, rfl, rfl⟩

/-- The slots after PAIR raise no fault (R201). -/
theorem faulted_evaluate (inp : Inputs) (s : State) : faulted (evaluate inp s) = faulted (evaluateFront inp s) := by
  unfold evaluate
  split
  · rfl
  · rw [evaluateBack, bSlot_frame, rSlot_frame, arrdySlot_frame, drainSlot_frame]
    rfl

/-- Settles O58: the transfer rows are selected exactly where a tick delivers, and a delivering tick's R slot advances. -/
theorem deliveryIsByTheTransferRows : Obligations.DeliveryIsByTheTransferRows := by
  intro inp s
  refine ⟨fun b => ?_, fun h => ?_, fun hfault => ?_, fun t ht hfault => ?_⟩
  · rw [delivered_eq_some, transfer_row_iff]
    tauto
  · obtain ⟨b, hb⟩ := Option.ne_none_iff_exists'.1 h
    obtain ⟨hf, hfront, hvalid, hready, -⟩ := delivered_eq_some.1 hb
    obtain ⟨hcfg, -, hlq, -⟩ := beforeR_frame inp s
    obtain ⟨hout, hlat, hpq⟩ := evaluate_of_delivered hfront hready
    obtain ⟨horder, htail⟩ := advance_order (beforeR inp s)
    refine ⟨hvalid, evaluate inp s, exec_tick inp hf, ?_, hpq.trans htail⟩
    rw [hout, hlat, horder, hlq, hcfg]
    rfl
  · have hf : faulted s = true := by simp [faulted, hfault]
    simp [delivered, hf]
  · obtain ⟨-, rfl⟩ := execTick_next ht
    have hfront : faulted (evaluateFront inp s) = true := by rw [← faulted_evaluate]; simp [faulted, hfault]
    simp [delivered, hfront]

end Sys2Proof.Machine
end

section
/-!
The write-channel rows (R102 to R105, R109 to R111), and the addresses of a burst (R59, R100).
-/

namespace Sys2Proof.Machine

/-- Aligning takes the remainder off, with no wrap of the address (R59). -/
theorem align_eq_sub (db : Nat) (a : Addr) : align db a = a - BitVec.ofNat 64 (a.toNat % db) := by
  have hle : a.toNat % db ≤ a.toNat := Nat.mod_le _ _
  have ha : a.toNat < 2 ^ 64 := addr_lt a
  refine BitVec.eq_of_toNat_eq ?_
  rw [align, BitVec.toNat_sub, BitVec.toNat_ofNat, BitVec.toNat_ofNat]
  omega

/-- Settles O21: the queued address is aligned by taking its remainder off. -/
theorem awRowsResult : Obligations.AwRowsResult := by
  intro p s
  rw [← align_eq_sub]
  exact ⟨rfl, rfl, rfl⟩

/-- Settles O22: the rows are the capture and the rest of the W slot. -/
theorem wRowsResult : Obligations.WRowsResult :=
  fun _ _ => ⟨rfl, rfl, rfl⟩

/-- Settles O26: each row raises its fault, under the code of R200. -/
theorem wlastFaultRowsResult : Obligations.WlastFaultRowsResult :=
  fun _ => ⟨rfl, rfl, rfl, rfl⟩

/-- Settles O27: the idle rows answer the state that they are given. -/
theorem pairIdleRowsResult : Obligations.PairIdleRowsResult :=
  fun _ => ⟨rfl, rfl⟩

/-- Steps of a bus width do not meet again within the address space (R100). -/
theorem beat_addresses_nodup (a : Addr) {db n : Nat} (hpos : 0 < db) (hn : n * db ≤ 2 ^ 64) :
    ((List.range n).map fun i => addrAdd a (i * db)).Nodup := by
  refine List.Nodup.map_on (fun i hi j hj heq => ?_) List.nodup_range
  have hmem : ∀ {i}, i ∈ List.range n → i * db ∈ List.range (n * db) := fun hi =>
    List.mem_range.2 (Nat.mul_lt_mul_of_pos_right (List.mem_range.1 hi) hpos)
  exact Nat.eq_of_mul_eq_mul_right hpos
    (List.inj_on_of_nodup_map (lane_addresses_nodup a hn) (hmem hi) (hmem hj) heq)

/-- Settles O19: the beats of a burst, at most 256, stand at multiples of the bus width. -/
theorem splitReadAddresses : Obligations.SplitReadAddresses := by
  intro db base len
  refine ⟨by simp [splitRead], fun i hi => ?_, fun hpos hdb => ?_⟩
  · simp [splitRead, addrAdd, Nat.lt_succ_of_le hi]
  · have hlen : len.toNat + 1 ≤ 256 := len.isLt
    have hspan : (len.toNat + 1) * db ≤ 2 ^ 64 := (Nat.mul_le_mul_right db hlen).trans hdb.le
    rw [splitRead, List.map_map]
    exact beat_addresses_nodup base hpos hspan

end Sys2Proof.Machine
end

section
/-!
The PAIR slot on two heads that agree or disagree about the burst's end (R107 to R110), and what a tick makes of it.
-/

namespace Sys2Proof.Machine

variable {s : State} {e : AwEntry} {es : List AwEntry} {w : WBeat} {ws : List WBeat}

/-- Heads that agree about the burst's end pair (R107, R108). -/
theorem pairSlot_of_agree (ha : s.awq = e :: es) (hw : s.wq = w :: ws) (h : w.last = true ↔ e.rem = 0) :
    pairSlot s = if e.rem = 0 then pairLast e es w ws s else pairBeat e es w ws s := by
  simp only [pairSlot, ha, hw]
  by_cases hr : e.rem = 0
  · simp [hr, h.2 hr]
  · simp [hr, mt h.1 hr]

/-- Heads that disagree about the burst's end raise the fault that says which way (R109, R110). -/
theorem pairSlot_of_disagree (ha : s.awq = e :: es) (hw : s.wq = w :: ws) (h : ¬ (w.last = true ↔ e.rem = 0)) :
    pairSlot s = raiseFault (if w.last then .wlastEarly else .wlastMissing) s := by
  simp only [pairSlot, ha, hw]
  by_cases hr : e.rem = 0 <;> cases hl : w.last <;> simp [hr, hl] at h ⊢

/-- Whether the heads end their burst or not, a pairing writes the data beat at the head's address (R106). -/
theorem pairSlot_mem_of_agree (ha : s.awq = e :: es) (hw : s.wq = w :: ws) (h : w.last = true ↔ e.rem = 0) :
    (pairSlot s).mem = (applyBeat e.addr w s).mem := by
  rw [pairSlot_of_agree ha hw h]
  split
  · rfl
  · rfl

/-- On two heads the PAIR slot leaves no fault exactly where there was none and the heads agree (R109, R110). -/
theorem pairSlot_fault_none_iff (ha : s.awq = e :: es) (hw : s.wq = w :: ws) :
    (pairSlot s).fault = .none ↔ s.fault = .none ∧ (w.last = true ↔ e.rem = 0) := by
  by_cases h : w.last = true ↔ e.rem = 0
  · rw [pairSlot_of_agree ha hw h, pairLast_frame, pairBeat_frame]
    split <;> simp [h]
  · rw [pairSlot_of_disagree ha hw h]
    refine iff_of_false ?_ fun hs => h hs.2
    cases w.last <;> simp

/-- The PAIR slot clears no fault (R203). -/
theorem fault_none_of_pairSlot (h : (pairSlot s).fault = .none) : s.fault = .none := by
  obtain ⟨-, hp⟩ | ⟨e, es, w, ws, ha, hw, -⟩ := pairSlot_cases s
  · rwa [hp] at h
  · exact ((pairSlot_fault_none_iff ha hw).1 h).1

/-- The PAIR slot leaves the Block Store, or writes one data beat that agrees with its burst (R113, R115). -/
theorem pairSlot_mem_cases (hwf : Memory.wf s.mem = true) (hdb : s.cfg.dataBytes ≤ 2 ^ 64) :
    (pairSlot s).mem = s.mem ∨
    ∃ e w, s.awq.head? = some e ∧ s.wq.head? = some w ∧ (w.last = true ↔ e.rem = 0) ∧
      StrobedWrite s.cfg.dataBytes e.addr w s.mem (pairSlot s).mem := by
  obtain ⟨-, hp⟩ | ⟨e, es, w, ws, ha, hw, -⟩ := pairSlot_cases s
  · exact .inl (by rw [hp])
  · by_cases h : w.last = true ↔ e.rem = 0
    · refine .inr ⟨e, w, by rw [ha]; rfl, by rw [hw]; rfl, h, ?_⟩
      rw [pairSlot_mem_of_agree ha hw h]
      exact applyBeat_strobedWrite e.addr w hwf hdb
    · exact .inl (by rw [pairSlot_of_disagree ha hw h]; rfl)

variable {inp : Inputs}

/-- The state in which a tick's PAIR slot runs (R161). -/
def beforePair (inp : Inputs) (s : State) : State := arSlot inp (wSlot inp (awSlot inp s))

theorem evaluateFront_eq (inp : Inputs) (s : State) : evaluateFront inp s = pairSlot (beforePair inp s) := rfl

/-- What the slots before PAIR leave alone (R161). -/
theorem beforePair_frame (inp : Inputs) (s : State) :
    beforePair inp s =
      { s with
        awq := (beforePair inp s).awq, awready := (beforePair inp s).awready, wq := (beforePair inp s).wq
        wready := (beforePair inp s).wready, arready := (beforePair inp s).arready, pq := (beforePair inp s).pq
        pending := (beforePair inp s).pending, oq := (beforePair inp s).oq, inflight := (beforePair inp s).inflight
        events := (beforePair inp s).events, draws := (beforePair inp s).draws } := by
  rw [beforePair, arSlot_frame, wSlot_frame, awSlot_frame]

@[simp] theorem beforePair_cfg (inp : Inputs) (s : State) : (beforePair inp s).cfg = s.cfg := by rw [beforePair_frame]

@[simp] theorem beforePair_mem (inp : Inputs) (s : State) : (beforePair inp s).mem = s.mem := by rw [beforePair_frame]

/-- In TIMING mode the AR slot leaves ARREADY to the ARRDY slot and the primary queue to the DRAIN slot (R141, R165). -/
theorem arSlot_timing_registers (hm : s.cfg.mode = .timing) :
    (arSlot inp s).arready = s.arready ∧ (arSlot inp s).pq = s.pq := by
  rw [arSlot_timing inp hm]
  split
  · rw [acceptT, registerBeats_frame]
    exact ⟨rfl, rfl⟩
  · exact ⟨rfl, rfl⟩

theorem beforePair_timing (hm : s.cfg.mode = .timing) :
    (beforePair inp s).arready = s.arready ∧ (beforePair inp s).pq = s.pq := by
  have hmode : (wSlot inp (awSlot inp s)).cfg.mode = .timing := by
    rw [wSlot_frame, awSlot_frame]
    exact hm
  obtain ⟨harready, hpq⟩ := arSlot_timing_registers (inp := inp) hmode
  rw [beforePair, harready, hpq, wSlot_frame, awSlot_frame]
  exact ⟨rfl, rfl⟩

/-- The slots after PAIR write nothing to the Block Store (R115). -/
theorem evaluate_mem (inp : Inputs) (s : State) : (evaluate inp s).mem = (evaluateFront inp s).mem := by
  unfold evaluate
  split
  · rfl
  · rw [evaluateBack, bSlot_frame, rSlot_frame, arrdySlot_frame, drainSlot_frame]

/-- Settles O25: of a tick's slots only PAIR writes to the Block Store. -/
theorem tickWritesOnlyStrobedBytes : Obligations.TickWritesOnlyStrobedBytes := by
  intro inp s t hwf hdb ht
  obtain ⟨-, rfl⟩ := execTick_next ht
  have hpair := pairSlot_mem_cases (s := beforePair inp s) (by rwa [beforePair_mem]) (by rwa [beforePair_cfg])
  rw [← evaluateFront_eq, ← evaluate_mem, beforePair_mem, beforePair_cfg] at hpair
  exact hpair.imp_left fun hmem a => by rw [hmem]

/-- A tick ends in PAIR where the heads disagree about the burst's end (R201). -/
theorem evaluate_of_disagree (ha : (beforePair inp s).awq = e :: es) (hw : (beforePair inp s).wq = w :: ws)
    (h : ¬ (w.last = true ↔ e.rem = 0)) :
    evaluate inp s = raiseFault (if w.last then .wlastEarly else .wlastMissing) (beforePair inp s) := by
  have hfront := pairSlot_of_disagree ha hw h
  rw [← evaluateFront_eq] at hfront
  have hfaulted : faulted (evaluateFront inp s) = true := by
    rw [hfront]
    cases w.last <;> rfl
  rw [evaluate, if_pos hfaulted, hfront]

/-- Settles O28: the state that the tick ends in is the one before PAIR with the fault raised. -/
theorem wlastMismatchEndsTheTick : Obligations.WlastMismatchEndsTheTick := by
  intro inp s e es w ws hf ha hw h
  refine ⟨_, exec_tick inp (by simp [faulted, hf]), evaluate_of_disagree ha hw h, ?_⟩
  rw [evaluate_of_disagree ha hw h]
  have htiming := beforePair_timing (inp := inp) (s := s)
  refine ⟨?_, ?_, ?_, ?_, ?_, ?_, htiming⟩ <;> rw [beforePair_frame] <;> rfl

end Sys2Proof.Machine
end

section
/-!
The burst-length law (R112): how far a write burst has paired after some PAIR slots.
-/

namespace Sys2Proof.Machine

variable {s t : State} {e : AwEntry} {es : List AwEntry} {beats rest : List WBeat} {k : Nat}

/-- After `k` pairings of `s`'s head burst `e` with the beats queued for it, in the block `t`: the head stands `k` bus widths
on with `k` beats fewer to come, the beats are taken off, and there is no fault and no response yet (R107). -/
structure BurstProgress (s : State) (e : AwEntry) (es : List AwEntry) (beats rest : List WBeat) (k : Nat) (t : State) :
    Prop where
  cfg : t.cfg = s.cfg
  fault : t.fault = .none
  awq : t.awq = { id := e.id, addr := addrAdd e.addr (k * s.cfg.dataBytes), rem := e.rem - k } :: es
  wq : t.wq = beats.drop k ++ rest
  bq : t.bq = s.bq
  mem : Memory.wf s.mem = true → Memory.wf t.mem = true

/-- A burst starts at its own head, with all its beats to come. -/
theorem BurstProgress.start (hf : s.fault = .none) (ha : s.awq = e :: es) (hw : s.wq = beats ++ rest) :
    BurstProgress s e es beats rest 0 s where
  cfg := rfl
  fault := hf
  awq := by simp [ha, addrAdd]
  wq := hw
  bq := rfl
  mem := id

/-- The data beat that pairs next is the burst's own next one. -/
theorem BurstProgress.wq_cons (h : BurstProgress s e es beats rest k t) (hk : k < beats.length) :
    t.wq = beats[k] :: (beats.drop (k + 1) ++ rest) := by
  rw [h.wq, List.drop_eq_getElem_cons hk, List.cons_append]

/-- A head agrees with beat `k` about the burst's end where WLAST marks beat `e.rem` and no other (R112). -/
theorem agree_iff {b : Bool} (hk : k ≤ e.rem) : (b = true ↔ e.rem - k = 0) ↔ (b = true ↔ k = e.rem) := by
  have hend : e.rem - k = 0 ↔ k = e.rem := by omega
  rw [hend]

/-- The next pairing raises no fault exactly where the beat agrees with the burst's length (R109, R110). -/
theorem BurstProgress.fault_none_iff (h : BurstProgress s e es beats rest k t) (hk : k < beats.length) (hr : k ≤ e.rem) :
    (pairSlot t).fault = .none ↔ (beats[k].last = true ↔ k = e.rem) := by
  rw [pairSlot_fault_none_iff h.awq (h.wq_cons hk), agree_iff hr]
  exact and_iff_right h.fault

/-- The next pairing writes its beat's strobed bytes at the burst's next address, and no others (R113). -/
theorem BurstProgress.strobedWrite (h : BurstProgress s e es beats rest k t) (hk : k < beats.length) (hr : k ≤ e.rem)
    (hlast : beats[k].last = true ↔ k = e.rem) (hwf : Memory.wf s.mem = true) (hdb : s.cfg.dataBytes ≤ 2 ^ 64) :
    StrobedWrite s.cfg.dataBytes (addrAdd e.addr (k * s.cfg.dataBytes)) beats[k] t.mem (pairSlot t).mem := by
  rw [pairSlot_mem_of_agree h.awq (h.wq_cons hk) ((agree_iff hr).2 hlast), ← h.cfg]
  exact applyBeat_strobedWrite _ _ (h.mem hwf) (by rwa [h.cfg])

/-- A beat before the last one brings the burst one beat on (R107). -/
theorem BurstProgress.next (h : BurstProgress s e es beats rest k t) (hk : k < beats.length) (hr : k < e.rem)
    (hlast : beats[k].last = true ↔ k = e.rem) : BurstProgress s e es beats rest (k + 1) (pairSlot t) := by
  have hpair := pairSlot_of_agree h.awq (h.wq_cons hk) ((agree_iff hr.le).2 hlast)
  rw [if_neg (Nat.sub_ne_zero_of_lt hr), pairBeat_frame] at hpair
  have hmem := fun hwf => pairSlot_mem_wf (h.mem hwf)
  rw [hpair] at hmem ⊢
  have haddr : addrAdd (addrAdd e.addr (k * s.cfg.dataBytes)) s.cfg.dataBytes =
      addrAdd e.addr ((k + 1) * s.cfg.dataBytes) := by rw [addrAdd_addrAdd, Nat.succ_mul, addrAdd]
  refine ⟨h.cfg, h.fault, ?_, rfl, h.bq, hmem⟩
  simp only [h.cfg, haddr, Nat.sub_sub]

/-- The last beat takes the burst off and queues its response (R108). -/
theorem BurstProgress.finish (h : BurstProgress s e es beats rest e.rem t) (hk : beats.length = e.rem + 1)
    (hlast : beats[e.rem].last = true) :
    (pairSlot t).awq = es ∧ (pairSlot t).wq = rest ∧ (pairSlot t).bq = s.bq ++ [{ id := e.id }] := by
  have hpair := pairSlot_of_agree h.awq (h.wq_cons (by omega)) ((agree_iff le_rfl).2 (iff_of_true hlast rfl))
  rw [if_pos (Nat.sub_self _), pairLast_frame] at hpair
  rw [hpair]
  refine ⟨rfl, ?_, by rw [h.bq]⟩
  simp [← hk]

/-- As long as the beats agree with the burst's length, `k` PAIR slots bring the burst `k` beats on (R107). -/
theorem burstProgress_iterate (hf : s.fault = .none) (ha : s.awq = e :: es) (hw : s.wq = beats ++ rest)
    (hlen : beats.length = e.rem + 1) (hr : k ≤ e.rem)
    (hagree : ∀ j (hj : j < beats.length), j < k → (beats[j].last = true ↔ j = e.rem)) :
    BurstProgress s e es beats rest k (pairSlot^[k] s) := by
  induction k with
  | zero => exact .start hf ha hw
  | succ k ih =>
    rw [Function.iterate_succ_apply']
    have hk : k < beats.length := by omega
    have hbefore := ih (by omega) fun j hj hlt => hagree j hj (hlt.trans k.lt_succ_self)
    exact hbefore.next hk hr (hagree k hk k.lt_succ_self)

/-- PAIR slots that end without a fault were without one all along (R203). -/
theorem fault_none_of_iterate {m n : Nat} (hmn : m ≤ n) (h : (pairSlot^[n] s).fault = .none) :
    (pairSlot^[m] s).fault = .none := by
  induction n, hmn using Nat.le_induction with
  | base => exact h
  | succ n _ ih => exact ih (fault_none_of_pairSlot (by rwa [← Function.iterate_succ_apply' pairSlot]))

/-- Without a fault every beat agreed with the burst's length: the first that did not would have raised one (R109, R110). -/
theorem agree_of_fault_none (hf : s.fault = .none) (ha : s.awq = e :: es) (hw : s.wq = beats ++ rest)
    (hlen : beats.length = e.rem + 1) (h : (pairSlot^[e.rem + 1] s).fault = .none) (k : Nat) (hk : k < beats.length) :
    beats[k].last = true ↔ k = e.rem := by
  induction k using Nat.strong_induction_on with
  | _ k ih =>
    have hr : k ≤ e.rem := by omega
    have hprogress := burstProgress_iterate hf ha hw hlen hr fun j hj hlt => ih j hlt hj
    rw [← hprogress.fault_none_iff hk hr, ← Function.iterate_succ_apply' pairSlot]
    exact fault_none_of_iterate (by omega) h

/-- Settles O29, by how far the burst has paired after `k` PAIR slots. -/
theorem burstLengthLaw : Obligations.BurstLengthLaw := by
  intro s e es beats rest hf ha hw hlen
  have hprogress : (∀ k (hk : k < beats.length), beats[k].last = true ↔ k = e.rem) →
      ∀ k ≤ e.rem, BurstProgress s e es beats rest k (pairSlot^[k] s) :=
    fun hagree k hr => burstProgress_iterate hf ha hw hlen hr fun j hj _ => hagree j hj
  refine ⟨⟨agree_of_fault_none hf ha hw hlen, fun hagree => ?_⟩, fun hagree => ⟨fun k hr => ?_, ?_, ?_⟩⟩
  · rw [Function.iterate_succ_apply', (hprogress hagree _ le_rfl).fault_none_iff (by omega) le_rfl]
    exact hagree _ _
  · obtain ⟨-, -, hawq, hwq, hbq, -⟩ := hprogress hagree k hr
    exact ⟨hawq, hwq, hbq⟩
  · intro hwf hdb k hk
    have hr : k ≤ e.rem := by omega
    rw [Function.iterate_succ_apply']
    exact (hprogress hagree k hr).strobedWrite hk hr (hagree k hk) hwf hdb
  · rw [Function.iterate_succ_apply']
    exact (hprogress hagree _ le_rfl).finish hlen ((hagree _ _).2 rfl)

end Sys2Proof.Machine
end

section
/-!
The R slot: its rows (R124 to R126), what it makes of the latency pipeline, and from there what a tick makes of it (R129,
R132).
-/

namespace Sys2Proof.Machine

variable {inp : Inputs} {s t : State}

/-- A shift, written out: the head of `lq ++ [x]` is presented and the rest is the latency register (R120). -/
theorem shift_eq {x q : ReadBeat} {qs : List ReadBeat} (h : s.lq ++ [x] = q :: qs) :
    shift x s = { s with rout := q, lq := qs } := by
  have horder := shift_order x s
  rw [h, List.cons.injEq] at horder
  obtain ⟨hrout, hlq⟩ := horder
  rw [shift_frame, hrout, hlq]

/-- Settles O42: each advancing row is one shift, and a beat stands at the head of what it shifts. -/
theorem advancingRRowsResult : Obligations.AdvancingRRowsResult := by
  intro s
  have hhead (x : ReadBeat) : ∃ q qs, s.lq ++ [x] = q :: qs := List.exists_cons_of_ne_nil (by simp)
  refine ⟨fun x xs hpq => ?_, ?_⟩
  · obtain ⟨q, qs, h⟩ := hhead x
    have hshift : advanceWith x xs s = { s with pq := xs, rout := q, lq := qs } := shift_eq h
    exact ⟨q, qs, h, by simp [exec, execRXferShift, hpq, hshift], by simp [exec, execRFreeShift, hpq, hshift]⟩
  · obtain ⟨q, qs, h⟩ := hhead (fillBeat s.cfg.nwords)
    exact ⟨q, qs, h, congrArg Host.Outcome.next (shift_eq h), congrArg Host.Outcome.next (shift_eq h)⟩

/-- A tick that PAIR ends leaves the pipeline to its front slots, and any other to its R slot (R161, R201). -/
theorem evaluate_pipeline_eq (inp : Inputs) (s : State) :
    pipeline (evaluate inp s) =
      if faulted (evaluateFront inp s) then pipeline (evaluateFront inp s) else pipeline (rSlot inp (beforeR inp s)) := by
  unfold evaluate
  split
  · rfl
  · rw [evaluateBack, bSlot_frame]
    rfl

/-- A valid beat without RREADY holds the R slot (R126). -/
theorem rSlot_of_hold (hvalid : s.rout.valid = true) (hready : inp.rready = false) : rSlot inp s = s := by
  simp [rSlot, hvalid, hready]

/-- Without a hold the R slot advances (R132). -/
theorem rSlot_of_move (h : s.rout.valid = false ∨ inp.rready = true) : rSlot inp s = advance s := by
  obtain h | h := h <;> simp [rSlot, h]

/-- Settles O43: the slots before R leave the output and the latency register alone, and the R slot holds. -/
theorem heldBeatStays : Obligations.HeldBeatStays := by
  refine ⟨fun s => rfl, fun inp s t hvalid hready h => ?_⟩
  obtain ⟨-, rfl⟩ := execTick_next h
  obtain ⟨-, hrout, hlq, -⟩ := beforeR_frame inp s
  unfold evaluate
  split
  · exact ⟨evaluateFront_rout inp s, evaluateFront_lq inp s⟩
  · have hhold : rSlot inp (beforeR inp s) = beforeR inp s := rSlot_of_hold (by rwa [hrout]) hready
    rw [evaluateBack, ← beforeR, hhold, bSlot_frame]
    exact ⟨hrout, hlq⟩

/-- An advance takes the presented beat off the pipeline's front, and puts a FILL sentinel behind it where nothing is queued
(R120, R123). -/
theorem advance_pipeline (s : State) :
    pipeline (advance s) = (pipeline s).tail ++ if s.pq = [] then [fillBeat s.cfg.nwords] else [] := by
  obtain ⟨horder, hpq⟩ := advance_order s
  rw [pipeline, ← List.cons_append, horder, hpq, pipeline, List.tail_cons]
  cases s.pq <;> simp

/-- Up to PAIR a tick puts what its AR slot pushes behind the pipeline (R129). -/
theorem evaluateFront_pipeline (inp : Inputs) (s : State) :
    pipeline (evaluateFront inp s) = pipeline s ++ acceptedBeats inp s := by
  simp [pipeline, evaluateFront_pq]

/-- The pipeline in which the R slot runs: the queue is the one that the DRAIN slot leaves (R129, R161). -/
theorem beforeR_pipeline (inp : Inputs) (s : State) :
    (beforeR inp s).pq = (drainSlot (evaluateFront inp s)).pq ∧
      pipeline (beforeR inp s) = s.rout :: (s.lq ++ (drainSlot (evaluateFront inp s)).pq) := by
  obtain ⟨-, hrout, hlq, -⟩ := beforeR_frame inp s
  have hpq : (beforeR inp s).pq = (drainSlot (evaluateFront inp s)).pq := by rw [beforeR, arrdySlot_frame]
  exact ⟨hpq, by rw [pipeline, hrout, hlq, hpq]⟩

/-- What a tick pushes before its R slot runs stands behind the pipeline (R129). -/
theorem exists_pushed (inp : Inputs) (s : State) :
    ∃ pushed, (drainSlot (evaluateFront inp s)).pq = s.pq ++ pushed ∧ pipeline (beforeR inp s) = pipeline s ++ pushed := by
  obtain ⟨released, hreleased⟩ := drainSlot_keeps_queued (evaluateFront inp s)
  rw [evaluateFront_pq, List.append_assoc] at hreleased
  refine ⟨acceptedBeats inp s ++ released, hreleased.symm, ?_⟩
  rw [(beforeR_pipeline inp s).2, ← hreleased, pipeline, List.cons_append, List.append_assoc]

/-- Settles O44: the AR and DRAIN slots push behind the pipeline, and the R slot holds or advances it. -/
theorem pipelineIsFifo : Obligations.PipelineIsFifo := by
  intro inp s t h
  obtain ⟨-, rfl⟩ := execTick_next h
  have hend : faulted (evaluateFront inp s) = true ↔ (evaluate inp s).fault ≠ .none := by
    rw [← faulted_evaluate]; simp [faulted]
  rw [evaluate_pipeline_eq]
  cases hfront : faulted (evaluateFront inp s) with
  | true =>
    have hfault : (evaluate inp s).fault ≠ .none := hend.1 hfront
    exact ⟨acceptedBeats inp s, fun _ => evaluateFront_pq inp s, fun hnone => absurd hnone hfault,
      fun _ => evaluateFront_pipeline inp s, fun hnone => absurd hnone hfault⟩
  | false =>
    have hfault : (evaluate inp s).fault = .none := by simpa [hfront] using hend
    obtain ⟨pushed, hqueued, hpushed⟩ := exists_pushed inp s
    have hpq := (beforeR_pipeline inp s).1.trans hqueued
    obtain ⟨hcfg, hrout, -, -⟩ := beforeR_frame inp s
    refine ⟨pushed, fun hne => absurd hfault hne, fun _ => hqueued, fun hhold => ?_, fun _ hmove => ?_⟩
    · obtain ⟨hvalid, hready⟩ := hhold.resolve_left (not_not_intro hfault)
      exact (congrArg pipeline (rSlot_of_hold (by rwa [hrout]) hready)).trans hpushed
    · rw [if_neg Bool.false_ne_true, rSlot_of_move (by rwa [hrout]), advance_pipeline, hpushed, hpq, hcfg]
      refine ⟨fun hne => by simp [hne], fun hnil => ?_⟩
      obtain ⟨-, hnone⟩ := List.append_eq_nil_iff.1 hnil
      rw [if_pos hnil, hnone, List.append_nil]
      rfl

end Sys2Proof.Machine
end

section
/-!
What the pipeline presents: sentinels until a read is asked for (R130), and a FUNCTIONAL burst's beats after the latency
(R232).
-/

namespace Sys2Proof.Machine

variable {inp : Inputs} {s t : State}

/-- A warm-up block of the configuration `c` (R130): nothing is outstanding, and the pipeline is all sentinels. -/
structure WarmUp (c : Config) (s : State) : Prop where
  cfg : s.cfg = c
  oq : s.oq = []
  sentinels : ∀ b ∈ pipeline s, b = bootBeat c.nwords

/-- With an empty order queue the DRAIN slot releases nothing (R147). -/
theorem drainSlot_of_oq_nil (h : s.oq = []) : (drainSlot s).pq = s.pq ∧ (drainSlot s).oq = [] := by
  unfold drainSlot
  cases s.cfg.mode with
  | functional | atomic => exact ⟨rfl, h⟩
  | timing => simp [drainTiming, h]

/-- Without ARVALID the order queue is not pushed to (R165). -/
theorem evaluateFront_oq_of_idle (h : inp.arvalid = false) : (evaluateFront inp s).oq = s.oq := by
  have hidle : arSlot inp (wSlot inp (awSlot inp s)) = restAr (wSlot inp (awSlot inp s)) := by simp [arSlot, h]
  rw [evaluateFront, hidle, pairSlot_frame, restAr_frame, wSlot_frame, awSlot_frame]

/-- The R slot brings nothing into the pipeline but a FILL sentinel (R123). -/
theorem mem_pipeline_rSlot {b : ReadBeat} (hb : b ∈ pipeline (rSlot inp s)) :
    b ∈ pipeline s ∨ b = fillBeat s.cfg.nwords := by
  unfold rSlot at hb
  split at hb
  · exact .inl hb
  · rw [advance_pipeline, List.mem_append] at hb
    refine hb.imp List.mem_of_mem_tail fun hfill => ?_
    split at hfill
    · exact List.mem_singleton.1 hfill
    · cases hfill

/-- Warm-up lasts over a tick that asks for no read: what an advance puts behind the pipeline is a sentinel again (R123,
R130). -/
theorem evaluate_warmUp {c : Config} (harvalid : inp.arvalid = false) (h : WarmUp c s) : WarmUp c (evaluate inp s) := by
  obtain ⟨hcfg, hoq, hsentinels⟩ := h
  have hnone : acceptedBeats inp s = [] := by simp [acceptedBeats, harvalid]
  have hfrontoq : (evaluateFront inp s).oq = [] := (evaluateFront_oq_of_idle harvalid).trans hoq
  obtain ⟨hdrainpq, hdrainoq⟩ := drainSlot_of_oq_nil hfrontoq
  rw [evaluateFront_pq, hnone, List.append_nil] at hdrainpq
  obtain ⟨-, hpipeline⟩ := beforeR_pipeline inp s
  rw [hdrainpq, ← pipeline] at hpipeline
  refine ⟨(evaluate_cfg inp s).trans hcfg, ?_, fun b hb => ?_⟩
  · unfold evaluate
    split
    · exact hfrontoq
    · rw [evaluateBack, bSlot_frame, rSlot_frame, arrdySlot_frame]
      exact hdrainoq
  · rw [evaluate_pipeline_eq] at hb
    split at hb
    · rw [evaluateFront_pipeline, hnone, List.append_nil] at hb
      exact hsentinels b hb
    · obtain hb | rfl := mem_pipeline_rSlot hb
      · exact hsentinels b (hpipeline ▸ hb)
      · rw [(beforeR_frame inp s).1, hcfg]
        rfl

/-- A fresh block is warming up (R121, R220). -/
theorem buildBlock_warmUp (c : Config) (s : State) : WarmUp c (buildBlock c s) where
  cfg := rfl
  oq := rfl
  sentinels b hb := by
    have hbeats : b = bootBeat c.nwords ∨ b ∈ List.replicate c.rLatency (bootBeat c.nwords) := by
      simpa [pipeline, buildBlock] using hb
    exact hbeats.elim id List.eq_of_mem_replicate

theorem runTicks_warmUp {c : Config} {inps : List Inputs} (hidle : ∀ inp ∈ inps, inp.arvalid = false) (h : WarmUp c s)
    (hrun : runTicks inps s = some t) : WarmUp c t := by
  induction inps generalizing s with
  | nil => cases hrun; exact h
  | cons inp inps ih =>
    obtain ⟨hinp, hinps⟩ := List.forall_mem_cons.1 hidle
    exact ih hinps (evaluate_warmUp hinp h) (runTicks_cons hrun).2

/-- Settles O45: a fresh block warms up until a read is asked for, and a warm-up block presents a sentinel. -/
theorem warmUpShowsSentinels : Obligations.WarmUpShowsSentinels := by
  intro c s t inps hidle hrun
  exact (runTicks_warmUp hidle (buildBlock_warmUp c s) hrun).sentinels t.rout List.mem_cons_self

/-- Settles O46: the beat is the burst's, and it is presented by the latency law. -/
theorem functionalReadLatency : Obligations.FunctionalReadLatency := by
  intro inp s t k inps hm hdb hdepth hpq hready hvalid harready hk hlength hlater h hf
  refine ⟨blockBeat s (addrAdd (align s.cfg.dataBytes inp.ar.addr) (k * s.cfg.dataBytes)), ?_, ?_, fun j hj => ?_⟩
  · refine accepted_beat_latency hdepth hpq hready hlater hlength h hf ?_
    have hbeat : (blockBeats inp.ar.id s (burstOf s.cfg.dataBytes inp.ar))[k]? = some
        (readBeat inp.ar.id (decide (k = inp.ar.len.toNat))
          (blockBeat s (addrAdd (align s.cfg.dataBytes inp.ar.addr) (k * s.cfg.dataBytes)))) := by
      rw [blockBeats, List.getElem?_map, burstOf_getElem? _ inp.ar hk]
      rfl
    simp only [acceptedBeats, hvalid, harready, Bool.and_self, if_true, hm]
    exact getElem?_of_isPrefix (List.prefix_append _ _) hbeat
  · simp [blockBeat, memRead, Params.nwords]
  · rw [lane_blockBeat hdb _ hj, addrAdd_addrAdd]

end Sys2Proof.Machine
end

section
/-!
The order of the read beats (R129, R153): what each slot of a tick does to the stream of those still to deliver.
-/

namespace Sys2Proof.Machine

variable {inp : Inputs} {s : State}

/-- `orderTags` over what is pending at each address, in place of the table: the k-th occurrence of an address in the order
queue takes the k-th tag at that address. -/
def takeTags : List Addr → (Addr → List (Id × Bool)) → List (Id × Bool)
  | [], _ => []
  | a :: as, f =>
    match f a with
    | [] => []
    | e :: es => e :: takeTags as (Function.update f a es)

theorem takeTags_cons {a : Addr} {f : Addr → List (Id × Bool)} {x : Id × Bool} {xs : List (Id × Bool)}
    (h : f a = x :: xs) (as : List Addr) : takeTags (a :: as) f = x :: takeTags as (Function.update f a xs) := by
  rw [takeTags, h]

/-- The tags pending at each address of a table. -/
def tableTags (m : List (Nat × List ReadBeat)) (a : Addr) : List (Id × Bool) := (tableGet [] m a.toNat).map beatTag

theorem tableTags_tableSet {m : List (Nat × List ReadBeat)} (h : pendingWf m = true) (a : Addr) (l : List ReadBeat) :
    tableTags (tableSet [] m a.toNat l) = Function.update (tableTags m) a (l.map beatTag) := by
  funext b
  by_cases hb : b = a
  · rw [hb, Function.update_self, tableTags, tableGet_tableSet_same h]
  · rw [Function.update_of_ne hb, tableTags, tableGet_tableSet_other h _ (addr_toNat_ne hb), tableTags]

/-- A canonical table gives the tags of the outstanding beats by what it holds at each address. -/
theorem orderTags_eq_takeTags (oq : List Addr) {m : List (Nat × List ReadBeat)} (h : pendingWf m = true) :
    orderTags oq m = takeTags oq (tableTags m) := by
  induction oq generalizing m with
  | nil => rfl
  | cons a as ih =>
    rw [orderTags, takeTags, tableTags]
    cases tableGet [] m a.toNat with
    | nil => rfl
    | cons e es =>
      have hwf : pendingWf (tableSet [] m a.toNat es) = true := tableWf_tableSet h es (Nat.zero_le _) (addr_lt a)
      simp only [List.map_cons, ih hwf, tableTags_tableSet h]

/-- Where every address is listed as often as it is pending, one more beat at any address comes last. -/
theorem takeTags_concat {oq : List Addr} {f : Addr → List (Id × Bool)} (h : ∀ a, (f a).length = oq.count a) (b : Addr)
    (e : Id × Bool) : takeTags (oq ++ [b]) (Function.update f b (f b ++ [e])) = takeTags oq f ++ [e] := by
  induction oq generalizing f with
  | nil =>
    have hnil : f b = [] := List.length_eq_zero_iff.1 (h b)
    simp [takeTags, hnil]
  | cons a as ih =>
    obtain ⟨x, xs, hx⟩ : ∃ x xs, f a = x :: xs := List.exists_cons_of_length_eq_add_one (by rw [h a, List.count_cons_self])
    have hrest : ∀ c, (Function.update f a xs c).length = as.count c := by
      intro c
      have hc := h c
      by_cases hca : c = a
      · rw [hca, hx, List.count_cons_self] at hc
        rw [hca, Function.update_self]
        exact Nat.succ.inj hc
      · rw [Function.update_of_ne hca, hc, List.count_cons_of_ne (Ne.symm hca)]
    have hnext := ih hrest
    rw [takeTags_cons hx, List.cons_append, List.cons_append, ← hnext]
    by_cases hab : a = b
    · subst hab
      rw [takeTags_cons (by rw [Function.update_self, hx, List.cons_append])]
      simp only [Function.update_self, Function.update_idem]
    · have hother : Function.update f b (f b ++ [e]) a = x :: xs := by rw [Function.update_of_ne hab, hx]
      rw [takeTags_cons hother, Function.update_of_ne (Ne.symm hab), Function.update_comm hab]

/-- The tags of the outstanding beats, in request order (R153). -/
def outstandingTags (s : State) : List (Id × Bool) := orderTags s.oq s.pending

/-- The tags of the valid beats among `bs`. -/
def validTags (bs : List ReadBeat) : List (Id × Bool) := (bs.filter fun b => b.valid).map beatTag

theorem readStream_eq (s : State) : readStream s = validTags (pipeline s) ++ outstandingTags s := rfl

@[simp] theorem validTags_nil : validTags [] = [] := rfl

@[simp] theorem validTags_append (bs bs' : List ReadBeat) : validTags (bs ++ bs') = validTags bs ++ validTags bs' := by
  simp [validTags]

theorem validTags_cons (b : ReadBeat) (bs : List ReadBeat) :
    validTags (b :: bs) = (if b.valid then [beatTag b] else []) ++ validTags bs := by
  unfold validTags
  rw [List.filter_cons]
  split <;> rfl

/-- The gap behind a burst delivers nothing (R122). -/
@[simp] theorem validTags_gap (n nwords : Nat) : validTags (List.replicate n (gapBeat nwords)) = [] := by
  simp [validTags, gapBeat, sentinel]

/-- A registered beat is outstanding behind all others (R141). -/
theorem registerBeat_outstandingTags (id : Id) (b : Addr × Bool) (h : TrackingInv s) :
    outstandingTags (registerBeat id b s) = outstandingTags s ++ [(id, b.2)] := by
  have hwf := (registerBeat_trackingInv id b h).canonical
  have hcount : ∀ a, (tableTags s.pending a).length = s.oq.count a := fun a =>
    (List.length_map _).trans (h.matchesOrder a)
  have htags : tableTags (registerBeat id b s).pending =
      Function.update (tableTags s.pending) b.1 (tableTags s.pending b.1 ++ [(id, b.2)]) := by
    rw [registerBeat_pending, setPending, tableTags_tableSet h.canonical, List.map_append]
    rfl
  rw [outstandingTags, orderTags_eq_takeTags _ hwf, htags, registerBeat_oq, takeTags_concat hcount, outstandingTags,
    orderTags_eq_takeTags _ h.canonical]

theorem registerBeats_outstandingTags (id : Id) (bs : List (Addr × Bool)) (h : TrackingInv s) :
    outstandingTags (registerBeats id bs s) = outstandingTags s ++ bs.map fun b => (id, b.2) := by
  induction bs generalizing s with
  | nil => exact (List.append_nil _).symm
  | cons b bs ih =>
    rw [registerBeats, ih (registerBeat_trackingInv id b h), registerBeat_outstandingTags id b h, List.append_assoc]
    rfl

/-- A fill gives the oldest invalid placeholder its data and changes no tag (R142). -/
theorem fillOldest_tags (d : List DataWord) (l : List ReadBeat) : (fillOldest d l).map beatTag = l.map beatTag := by
  induction l with
  | nil => rfl
  | cons b l ih =>
    rw [fillOldest]
    split
    · rw [List.map_cons, List.map_cons, ih]
    · rfl

theorem fillPending_outstandingTags (a : Addr) (bytes : List Byte) (h : pendingWf s.pending = true) :
    outstandingTags (fillPending a bytes s) = outstandingTags s := by
  have htags : tableTags (fillPending a bytes s).pending = tableTags s.pending := by
    rw [fillPending_pending, setPending, tableTags_tableSet h, fillOldest_tags]
    exact Function.update_eq_self a _
  have hwf : pendingWf (fillPending a bytes s).pending = true := setPending_wf h a _
  rw [outstandingTags, orderTags_eq_takeTags _ hwf, htags, fillPending_oq, outstandingTags, orderTags_eq_takeTags _ h]

/-- The beats of a burst, each valid, have the burst's tags (R163). -/
theorem validTags_blockBeats (id : Id) (s : State) (bs : List (Addr × Bool)) :
    validTags (blockBeats id s bs) = bs.map fun b => (id, b.2) := by
  induction bs with
  | nil => rfl
  | cons b bs ih =>
    rw [blockBeats, List.map_cons, validTags_cons, ← blockBeats, ih]
    rfl

/-- The beats of a burst, each valid, have the burst's tags (R164). -/
theorem validTags_atomicBurst (id : Id) (s : State) (bs : List (Addr × Bool)) :
    validTags (atomicBurst id s bs) = bs.map fun b => (id, b.2) := by
  induction bs generalizing s with
  | nil => rfl
  | cons b bs ih =>
    rw [atomicBurst_cons, validTags_cons, ih]
    rfl

/-- The AR slot puts the beats asked for behind all others: into the primary queue where nothing is outstanding (R163, R164,
R176), among the outstanding ones in TIMING mode (R141). -/
theorem arSlot_readStream (inp : Inputs) (h : TrackingInv s) (hidle : TableIdle s) :
    readStream (arSlot inp s) = readStream s ++ requestedTags inp s := by
  have hpipeline : pipeline (arSlot inp s) = pipeline s ++ acceptedBeats inp s := by
    rw [pipeline, arSlot_pq, arSlot_frame, pipeline, List.cons_append, List.append_assoc]
  rw [readStream_eq, hpipeline, validTags_append, List.append_assoc, readStream_eq, List.append_assoc,
    List.append_cancel_left_eq]
  by_cases hm : s.cfg.mode = .timing
  · have hnone : acceptedBeats inp s = [] := by simp [acceptedBeats, hm]
    rw [hnone, validTags_nil, List.nil_append, arSlot_timing inp hm, requestedTags]
    split
    · exact registerBeats_outstandingTags _ _ h
    · exact (List.append_nil _).symm
  · obtain ⟨hoq, -⟩ := hidle hm
    obtain ⟨hkeeps, -⟩ := (arSlot_slotFrame inp s).table hm
    have hnone (t : State) (ht : t.oq = []) : outstandingTags t = [] := by rw [outstandingTags, ht, orderTags]
    rw [hnone s hoq, hnone _ (hkeeps.trans hoq), List.append_nil, List.nil_append, acceptedBeats, requestedTags]
    split
    · cases hmode : s.cfg.mode with
      | functional => simp [validTags_blockBeats]
      | atomic => simp [validTags_atomicBurst]
      | timing => exact absurd hmode hm
    · rfl

/-- Up to PAIR a tick puts the beats asked for behind all others. -/
theorem evaluateFront_readStream (inp : Inputs) (h : Inv s) :
    readStream (evaluateFront inp s) = readStream s ++ requestedTags inp s := by
  have htracking := (wSlot_slotInv inp (awSlot_slotInv inp h.slotInv)).tracking
  have hidle : TableIdle (wSlot inp (awSlot inp s)) := by rw [wSlot_frame, awSlot_frame]; exact h.tableIdle
  have harSlot := arSlot_readStream inp htracking hidle
  have hbefore : readStream (wSlot inp (awSlot inp s)) = readStream s ∧
      requestedTags inp (wSlot inp (awSlot inp s)) = requestedTags inp s := by
    rw [wSlot_frame, awSlot_frame]
    exact ⟨rfl, rfl⟩
  rw [hbefore.1, hbefore.2] at harSlot
  rw [← harSlot, evaluateFront, pairSlot_frame]
  rfl

/-- A released head moves from the front of the outstanding beats to the pipeline's end (R144). -/
theorem releaseHead_readStream {a : Addr} {as : List Addr} {e : ReadBeat} {es : List ReadBeat} (ho : s.oq = a :: as)
    (hp : pendingAt s a = e :: es) (hv : e.valid = true) : readStream (releaseHead a as e es s) = readStream s := by
  have hpipeline : pipeline (releaseHead a as e es s) = pipeline s ++ [e] := by simp [pipeline]
  have htags : outstandingTags s = beatTag e :: outstandingTags (releaseHead a as e es s) := by
    rw [outstandingTags, ho, orderTags, ← pendingAt, hp]
    rfl
  rw [readStream_eq, hpipeline, readStream_eq, htags, validTags_append, validTags_cons, if_pos hv]
  simp

theorem pushGap_readStream (s : State) : readStream (pushGap s) = readStream s := by
  have hpipeline : pipeline (pushGap s) = pipeline s ++ List.replicate s.cfg.rDelay (gapBeat s.cfg.nwords) := by
    simp [pipeline]
  rw [readStream_eq, hpipeline, validTags_append, validTags_gap, List.append_nil]
  rfl

/-- The DRAIN slot changes nothing in the order of the beats (R153). -/
theorem drainSlot_readStream (s : State) : readStream (drainSlot s) = readStream s := by
  by_cases hm : s.cfg.mode = .timing
  · rw [drainSlot_timing hm]
    obtain h | ⟨a, as, e, es, ho, hp, hv, ⟨-, h⟩ | ⟨-, h⟩⟩ := drainTiming_cases s <;> rw [h]
    · rfl
    · exact releaseHead_readStream ho hp hv
    · rw [pushGap_readStream, releaseHead_readStream ho hp hv]
  · rw [(drain_arrdy_skip hm).1]

/-- The R slot takes the presented beat off the stream where it is valid and taken, and otherwise nothing (R124 to R126,
R128). -/
theorem rSlot_readStream (inp : Inputs) (s : State) :
    (if s.rout.valid && inp.rready then [beatTag s.rout] else []) ++ readStream (rSlot inp s) = readStream s := by
  have houtstanding : outstandingTags (rSlot inp s) = outstandingTags s := by rw [rSlot_frame]; rfl
  rw [readStream_eq, houtstanding, readStream_eq, ← List.append_assoc, List.append_cancel_right_eq]
  by_cases hhold : s.rout.valid = true ∧ inp.rready = false
  · obtain ⟨hvalid, hready⟩ := hhold
    simp [rSlot_of_hold hvalid hready, hready]
  · have hmove : s.rout.valid = false ∨ inp.rready = true := by simpa [or_iff_not_imp_left] using hhold
    have hfill : validTags (if s.pq = [] then [fillBeat s.cfg.nwords] else []) = [] := by split <;> rfl
    have htaken : (s.rout.valid && inp.rready) = s.rout.valid := by obtain h | h := hmove <;> simp [h]
    rw [rSlot_of_move hmove, advance_pipeline, validTags_append, hfill, List.append_nil, htaken]
    exact (validTags_cons _ _).symm

/-- The slots after PAIR deliver the front of the stream at most, and change nothing else in it. -/
theorem evaluateBack_readStream (inp : Inputs) (s : State) :
    (if s.rout.valid && inp.rready then [beatTag s.rout] else []) ++ readStream (evaluateBack inp s) = readStream s := by
  have hslots : readStream (arrdySlot (drainSlot s)) = readStream s := by
    rw [arrdySlot_frame]
    exact drainSlot_readStream s
  have hrout : (arrdySlot (drainSlot s)).rout = s.rout := by rw [arrdySlot_frame, drainSlot_frame]
  have hrSlot := rSlot_readStream inp (arrdySlot (drainSlot s))
  rw [hslots, hrout] at hrSlot
  rw [← hrSlot, evaluateBack, bSlot_frame]
  rfl

/-- Settles O47: the AR slot appends the beats asked for, the R slot takes the delivered one off the front, and no other slot
and no fill changes the stream. -/
theorem readBeatsAreDeliveredInRequestOrder : Obligations.ReadBeatsAreDeliveredInRequestOrder := by
  refine ⟨fun inp s t hs h => ?_, fun a bytes s t hs h => ?_⟩
  · obtain ⟨hf, rfl⟩ := execTick_next h
    rw [← evaluateFront_readStream inp hs]
    unfold evaluate delivered
    cases hfront : faulted (evaluateFront inp s) with
    | true => simp
    | false =>
      have hback := evaluateBack_readStream inp (evaluateFront inp s)
      rw [evaluateFront_rout] at hback
      simp only [hf, Bool.or_self, Bool.false_eq_true, if_false]
      rw [← hback]
      split
      · rfl
      · rfl
  · obtain ⟨-, -, rfl⟩ := execCplFill_next h
    rw [readStream_eq, fillPending_outstandingTags a bytes hs.canonical.2]
    rfl

end Sys2Proof.Machine
end

section
/-!
The in-flight table over the front of a TIMING-mode tick: what a burst's registration makes of it (R140, R141).
-/

namespace Sys2Proof.Machine

variable {inp : Inputs} {s t : State}

/-- The placeholders that a burst's beats put at an address, in beat order (R140, R141). -/
def placeholdersAt (nwords : Nat) (id : Id) (a : Addr) (bs : List (Addr × Bool)) : List ReadBeat :=
  (bs.filter fun b => b.1 = a).map fun b => placeholder nwords id b.2

theorem placeholdersAt_cons (nwords : Nat) (id : Id) (a : Addr) (b : Addr × Bool) (bs : List (Addr × Bool)) :
    placeholdersAt nwords id a (b :: bs) =
      (if b.1 = a then [placeholder nwords id b.2] else []) ++ placeholdersAt nwords id a bs := by
  by_cases hb : b.1 = a <;> simp [placeholdersAt, hb]

theorem registerBeats_oq (id : Id) (bs : List (Addr × Bool)) (s : State) :
    (registerBeats id bs s).oq = s.oq ++ bs.map Prod.fst := by
  induction bs generalizing s with
  | nil => exact (List.append_nil _).symm
  | cons b bs ih => rw [registerBeats, ih, registerBeat_oq, List.append_assoc]; rfl

/-- A registered burst, but for its placeholders (R141). -/
theorem registerBeats_eq (id : Id) (bs : List (Addr × Bool)) (s : State) :
    registerBeats id bs s =
      { s with
        pending := (registerBeats id bs s).pending, oq := s.oq ++ bs.map Prod.fst
        events := s.events ++ bs.map fun b => .read b.1 s.cfg.dataBytes true, inflight := s.inflight + bs.length } := by
  rw [← registerBeats_oq id, ← registerBeats_events id, ← registerBeats_inflight id]
  exact registerBeats_frame id bs s

/-- One beat's placeholder stands behind those already at its address (R141). -/
theorem pendingAt_registerBeat (id : Id) (b : Addr × Bool) (h : pendingWf s.pending = true) (a : Addr) :
    pendingAt (registerBeat id b s) a =
      pendingAt s a ++ if b.1 = a then [placeholder s.cfg.nwords id b.2] else [] := by
  rw [pendingAt_of_setPending h rfl a]
  by_cases hb : b.1 = a
  · subst hb; simp
  · simp [hb, Ne.symm hb]

/-- A burst's placeholders stand behind those already at their addresses, in beat order (R141). -/
theorem pendingAt_registerBeats (id : Id) (bs : List (Addr × Bool)) (h : pendingWf s.pending = true) (a : Addr) :
    pendingAt (registerBeats id bs s) a = pendingAt s a ++ placeholdersAt s.cfg.nwords id a bs := by
  induction bs generalizing s with
  | nil => exact (List.append_nil _).symm
  | cons b bs ih =>
    have hwf : pendingWf (registerBeat id b s).pending = true := setPending_wf h _ _
    rw [registerBeats, ih hwf, pendingAt_registerBeat id b h, registerBeat_cfg, List.append_assoc, placeholdersAt_cons]

/-- The beats that a cycle's AR handshake asks for (R100, R161). -/
def requestedBeats (inp : Inputs) (s : State) : List (Addr × Bool) :=
  if inp.arvalid && s.arready then burstOf s.cfg.dataBytes inp.ar else []

theorem requestedBeats_length (inp : Inputs) (s : State) :
    (requestedBeats inp s).length = if inp.arvalid && s.arready then inp.ar.len.toNat + 1 else 0 := by
  unfold requestedBeats
  split
  · exact burstOf_length _ _
  · rfl

/-- In TIMING mode the AR slot registers the beats asked for, none without a handshake (R141, R165). -/
theorem arSlot_eq_registerBeats (hm : s.cfg.mode = .timing) :
    arSlot inp s = registerBeats inp.ar.id (requestedBeats inp s) s := by
  rw [arSlot_timing inp hm, requestedBeats]
  split
  · rfl
  · rfl

/-- In TIMING mode the slots up to PAIR change the tracking table by the beats asked for only (R141). -/
theorem evaluateFront_table (hm : s.cfg.mode = .timing) :
    (evaluateFront inp s).oq = (registerBeats inp.ar.id (requestedBeats inp s) s).oq ∧
    (evaluateFront inp s).inflight = (registerBeats inp.ar.id (requestedBeats inp s) s).inflight ∧
    (pendingWf s.pending = true → ∀ a, pendingAt (evaluateFront inp s) a =
      pendingAt (registerBeats inp.ar.id (requestedBeats inp s) s) a) := by
  have hbefore : (wSlot inp (awSlot inp s)).cfg = s.cfg ∧ (wSlot inp (awSlot inp s)).pending = s.pending ∧
      (wSlot inp (awSlot inp s)).oq = s.oq ∧ (wSlot inp (awSlot inp s)).inflight = s.inflight ∧
      requestedBeats inp (wSlot inp (awSlot inp s)) = requestedBeats inp s := by
    rw [wSlot_frame, awSlot_frame]
    exact ⟨rfl, rfl, rfl, rfl, rfl⟩
  obtain ⟨hcfg, hpending, hoq, hinflight, hrequested⟩ := hbefore
  rw [evaluateFront, pairSlot_frame, arSlot_eq_registerBeats (hcfg ▸ hm), hrequested]
  refine ⟨?_, ?_, fun hwf a => ?_⟩
  · simp only [registerBeats_oq, hoq]
  · simp only [registerBeats_inflight, hinflight]
  · rw [pendingAt_registerBeats _ _ hwf]
    refine (pendingAt_registerBeats _ _ (hpending ▸ hwf) a).trans ?_
    rw [hcfg, pendingAt, hpending, pendingAt]

/-- The slots after PAIR register nothing (R144). -/
theorem evaluate_inflight_le (inp : Inputs) (s : State) :
    (evaluate inp s).inflight ≤ (evaluateFront inp s).inflight := by
  unfold evaluate
  split
  · exact le_rfl
  · rw [evaluateBack, bSlot_frame, rSlot_frame, arrdySlot_frame]
    exact drainSlot_inflight_le _

end Sys2Proof.Machine
end

section
/-!
The in-flight window over runs (R151, R154), and the handshake registers that a tick drives (R175).
-/

namespace Sys2Proof.Machine

variable {inp : Inputs} {s t : State}

/-- A run keeps the invariants (R40). -/
theorem Reaches.inv (h : Reaches s t) (hs : Inv s) : Inv t := by
  induction h with
  | refl => exact hs
  | step _ hstep ih => exact everyStepKeepsTheInvariants _ _ ih hstep

/-- A burst of one beat is accepted only while the window has room for it (R148 to R150, R154). -/
theorem evaluateFront_inflight_le_wEff (hf : s.fault = .none) (h : WindowBounded s) (hm : s.cfg.mode = .timing)
    (hlen : inp.ar.len = 0) (hle : s.inflight ≤ s.cfg.wEff) : (evaluateFront inp s).inflight ≤ s.cfg.wEff := by
  obtain ⟨-, hinflight, -⟩ := evaluateFront_table (inp := inp) hm
  obtain ⟨hroom, -⟩ := h hm
  rw [hinflight, registerBeats_inflight, requestedBeats_length, hlen]
  split
  · next hacc => exact hroom hf (Bool.and_eq_true_iff.1 hacc).2
  · exact hle

/-- Settles O55: the bound is an invariant of runs, and a tick counts up by the burst that its AR slot accepts at most. -/
theorem windowBoundOfRuns : Obligations.WindowBoundOfRuns := by
  refine ⟨fun s t hs hrun hm => ?_, fun inp s t hs hm hlen hle h => ?_⟩
  · obtain ⟨-, hcount, hzero⟩ := (hrun.inv hs).windowBounded hm
    exact ⟨hcount, fun h0 => (hzero h0).1⟩
  · obtain ⟨hf, rfl⟩ := execTick_next h
    have hfront := evaluateFront_inflight_le_wEff (by simpa [faulted] using hf) hs.windowBounded hm hlen hle
    rw [evaluate_cfg]
    exact (evaluate_inflight_le inp s).trans hfront

theorem evaluate_awready (inp : Inputs) (s : State) : (evaluate inp s).awready = !(inp.awvalid && s.awready) := by
  have hslot : (awSlot inp s).awready = !(inp.awvalid && s.awready) := by
    unfold awSlot; cases inp.awvalid && s.awready <;> rfl
  have hfront : (evaluateFront inp s).awready = (awSlot inp s).awready := by
    rw [evaluateFront, pairSlot_frame, arSlot_frame, wSlot_frame]
  rw [← hslot, ← hfront]
  unfold evaluate
  split
  · rfl
  · rw [evaluateBack, bSlot_frame, rSlot_frame, arrdySlot_frame, drainSlot_frame]

/-- Whatever WREADY was, a tick leaves it high (R22; from 0, log 21). -/
theorem evaluate_wready (inp : Inputs) (s : State) : (evaluate inp s).wready = true := by
  have hfront : (evaluateFront inp s).wready = true := by
    rw [evaluateFront, pairSlot_frame, arSlot_frame]
    exact wSlot_wreadyHigh inp (awSlot inp s)
  unfold evaluate
  split
  · exact hfront
  · rw [evaluateBack, bSlot_frame, rSlot_frame, arrdySlot_frame, drainSlot_frame]
    exact hfront

/-- Outside TIMING mode ARREADY drops for the cycle after a handshake (R163 to R165). -/
theorem arSlot_arready (hm : s.cfg.mode ≠ .timing) : (arSlot inp s).arready = !(inp.arvalid && s.arready) := by
  have hrest : (restAr s).arready = true := by
    unfold restAr
    split
    · rfl
    · rfl
    · next h => exact absurd h hm
  unfold arSlot
  cases inp.arvalid && s.arready with
  | false => exact hrest
  | true =>
    cases hmode : s.cfg.mode with
    | functional => rfl
    | atomic => rfl
    | timing => exact absurd hmode hm

/-- Outside TIMING mode ARREADY is the AR slot's (R166). -/
theorem evaluate_arready (hm : s.cfg.mode ≠ .timing) : (evaluate inp s).arready = !(inp.arvalid && s.arready) := by
  have hbefore : (wSlot inp (awSlot inp s)).cfg = s.cfg ∧ (wSlot inp (awSlot inp s)).arready = s.arready := by
    rw [wSlot_frame, awSlot_frame]
    exact ⟨rfl, rfl⟩
  obtain ⟨hcfg, hready⟩ := hbefore
  have hfront : (evaluateFront inp s).arready = !(inp.arvalid && s.arready) := by
    rw [evaluateFront, pairSlot_frame, ← hready]
    exact arSlot_arready (by rwa [hcfg])
  have hmode : (evaluateFront inp s).cfg.mode ≠ .timing := by rwa [(evaluateFront_slotFrame inp s).cfg]
  obtain ⟨hdrain, harrdy⟩ := drain_arrdy_skip hmode
  unfold evaluate
  split
  · exact hfront
  · rw [evaluateBack, bSlot_frame, rSlot_frame, hdrain, harrdy]
    exact hfront

/-- In TIMING mode the ARRDY slot raises ARREADY where nothing was drained and the window has room (R148 to R150). -/
theorem arrdySlot_arready (hm : s.cfg.mode = .timing) :
    (arrdySlot s).arready = (!(arrdySlot s).drained && winOk (arrdySlot s)) := by
  simp only [arrdySlot, hm]
  cases hd : s.drained with
  | true => simp [hd]
  | false => simp [hd, winOk]

/-- In TIMING mode ARREADY at a tick's end is the ARRDY slot's, and no later slot changes what that slot read. -/
theorem evaluateBack_arready (inp : Inputs) (hm : s.cfg.mode = .timing) :
    (evaluateBack inp s).arready = (!(evaluateBack inp s).drained && winOk (evaluateBack inp s)) := by
  have hready := arrdySlot_arready (s := drainSlot s) (by rwa [(drainSlot_slotFrame s).cfg])
  rw [evaluateBack, bSlot_frame, rSlot_frame]
  exact hready

/-- A tick that ends unfaulted has run its slots after PAIR (R161, R201). -/
theorem evaluate_of_fault_none (h : (evaluate inp s).fault = .none) :
    evaluate inp s = evaluateBack inp (evaluateFront inp s) := by
  have hfront : faulted (evaluateFront inp s) = false := by rw [← faulted_evaluate]; simp [faulted, h]
  simp [evaluate, hfront]

/-- Settles O9: AWREADY and WREADY are the AW and W slots', ARREADY the AR slot's or in TIMING mode the ARRDY slot's, and
BVALID the B slot's. -/
theorem tickDrivesTheHandshakes : Obligations.TickDrivesTheHandshakes := by
  intro inp s hs
  have htick := exec_tick inp (s := s) (by simp [faulted, hs])
  refine ⟨evaluate inp s, htick, evaluate_awready inp s, evaluate_wready inp s, evaluate_arready, fun hfault => ?_⟩
  refine ⟨fun hm => ?_, fun hvalid hready => (heldBeatStays.2 inp s _ hvalid hready htick).1, ?_⟩
  · have hback := evaluateBack_arready inp (s := evaluateFront inp s) (by rwa [(evaluateFront_slotFrame inp s).cfg])
    rwa [← evaluate_of_fault_none hfault, winOk, evaluate_cfg] at hback
  · rw [evaluate_of_fault_none hfault]
    exact (bSlot_responsePresented inp _).1

end Sys2Proof.Machine
end

section
/-!
The rows of the tracking table: registration (R141), release (R144 to R147), ARREADY (R148 to R150), completions (R142, R143)
and the host's query (R152).
-/

namespace Sys2Proof.Machine

variable {s : State}

/-- Settles O32: a registered burst is its addresses, its requests, its count and its placeholders, beat by beat. -/
theorem timingReadResult : Obligations.TimingReadResult := by
  intro p s hwf
  refine ⟨(acceptT p s).pending, ?_, fun a => ?_⟩
  · have hrow : exec (.arAcceptT p) s = .next (registerBeats p.id (burstOf s.cfg.dataBytes p) s) := rfl
    rw [hrow, registerBeats_eq, burstOf_length, burstOf, splitRead, List.map_map, List.map_map]
    rfl
  · refine (pendingAt_registerBeats p.id (burstOf s.cfg.dataBytes p) hwf a).trans ?_
    rw [placeholdersAt, burstOf, splitRead, List.filter_map, List.map_map]
    rfl

/-- Settles O34: both rows are the release of the head, DRAIN_LAST with the gap behind it. -/
theorem drainReleaseResult : Obligations.DrainReleaseResult := by
  intro s a as e es hoq hpending hwf
  refine ⟨setPending s a es, ?_, ?_, tableGet_tableSet_same hwf _ _, fun b hb => ?_⟩
  · simp only [exec, execDrainBeat, hoq, hpending, releaseHead]
  · simp only [exec, execDrainLast, hoq, hpending, releaseHead, pushGap, List.append_assoc]
    rfl
  · exact tableGet_tableSet_other hwf _ (addr_toNat_ne hb)

/-- Settles O35: the idle rows are `noDrain` and nothing. -/
theorem drainIdleRowsResult : Obligations.DrainIdleRowsResult := fun _ => ⟨rfl, rfl, rfl⟩

/-- Settles O36: each row drives ARREADY or does nothing. -/
theorem arrdyRowsResult : Obligations.ArrdyRowsResult := fun _ => ⟨rfl, rfl, rfl, rfl⟩

/-- A fill passes over the valid placeholders at the front (R142). -/
theorem fillOldest_append (d : List DataWord) {older newer : List ReadBeat} {e : ReadBeat}
    (hvalid : ∀ b ∈ older, b.valid = true) (he : e.valid = false) :
    fillOldest d (older ++ e :: newer) = older ++ ⟨true, e.id, e.last, d⟩ :: newer := by
  induction older with
  | nil => simp [fillOldest, he]
  | cons b older ih =>
    obtain ⟨hb, holder⟩ := List.forall_mem_cons.1 hvalid
    rw [List.cons_append, fillOldest, if_pos hb, ih holder, List.cons_append]

theorem exec_cplFill {a : Addr} (bytes : List Byte) (hf : faulted s = false) (hmatch : cplMatch s a = true) :
    exec (.cplFill a bytes) s = .next (fillPending a bytes s) := by
  simp [exec, execCplFill, hf, hmatch]

/-- Settles O37: the row is the fill of the list at its address. -/
theorem completionFillsTheOldest : Obligations.CompletionFillsTheOldest := by
  intro s a bytes older newer e hs hwf hpending hvalid he
  have hf : faulted s = false := by simp [faulted, hs]
  have hmatch : cplMatch s a = true := by simp [cplMatch, hasInvalid, hpending, he]
  refine ⟨setPending s a (fillOldest (pack bytes) (pendingAt s a)), exec_cplFill bytes hf hmatch, ?_, fun b hb => ?_⟩
  · rw [setPending, tableGet_tableSet_same hwf, hpending, fillOldest_append _ hvalid he]
  · exact tableGet_tableSet_other hwf _ (addr_toNat_ne hb)

/-- Settles O38: without an invalid placeholder at the address the completion matches nothing. -/
theorem otherCompletionRowsResult : Obligations.OtherCompletionRowsResult := by
  refine fun s a => ⟨fun hs hvalid => ⟨?_, rfl⟩, fun hs => ?_⟩
  · have hf : faulted s = false := by simp [faulted, hs]
    have hmatch : cplMatch s a = false := by simpa [cplMatch, hasInvalid] using hvalid
    simp [exec, execCplUnexpected, hf, hmatch, raiseFault]
  · have hf : faulted s = true := by simp [faulted, hs]
    simp [exec, execCplFaulted, hf]

/-- Settles O41: the row records the count, which is 0 in an idle table. -/
theorem queryResult : Obligations.QueryResult := by
  refine fun s => ⟨rfl, fun hidle hm => ?_⟩
  obtain ⟨-, -, hnone⟩ := hidle hm
  rw [← hnone]
  rfl

end Sys2Proof.Machine
end

section
/-!
Completions in any order (R153), and the head of the order queue that holds the others back (R155).
-/

namespace Sys2Proof.Machine

variable {inp : Inputs} {s t : State}

/-- Changes of a canonical table at two keys commute. -/
theorem tableSet_comm {β : Type} [DecidableEq β] {hi lo : Nat} {d : β} {m : List (Nat × β)} {a b : Nat}
    (h : tableWf hi d lo m = true) (hab : a ≠ b) (ha : lo ≤ a ∧ a < hi) (hb : lo ≤ b ∧ b < hi) (v w : β) :
    tableSet d (tableSet d m a v) b w = tableSet d (tableSet d m b w) a v := by
  have hwfa : tableWf hi d lo (tableSet d m a v) = true := tableWf_tableSet h v ha.1 ha.2
  have hwfb : tableWf hi d lo (tableSet d m b w) = true := tableWf_tableSet h w hb.1 hb.2
  refine table_ext (tableWf_tableSet hwfa w hb.1 hb.2) (tableWf_tableSet hwfb v ha.1 ha.2) fun c _ => ?_
  by_cases hcb : c = b
  · subst hcb
    rw [tableGet_tableSet_same hwfa, tableGet_tableSet_other hwfb _ hab.symm, tableGet_tableSet_same h]
  · rw [tableGet_tableSet_other hwfa _ hcb]
    by_cases hca : c = a
    · subst hca
      rw [tableGet_tableSet_same h, tableGet_tableSet_same hwfb]
    · rw [tableGet_tableSet_other h _ hca, tableGet_tableSet_other hwfb _ hca, tableGet_tableSet_other h _ hcb]

theorem pendingAt_fillPending_other {a b : Addr} (bytes : List Byte) (h : pendingWf s.pending = true) (hab : b ≠ a) :
    pendingAt (fillPending a bytes s) b = pendingAt s b :=
  tableGet_tableSet_other h _ (addr_toNat_ne hab)

/-- Fills at different addresses commute (R153). -/
theorem fillPending_comm {a b : Addr} (x y : List Byte) (h : pendingWf s.pending = true) (hab : a ≠ b) :
    fillPending b y (fillPending a x s) = fillPending a x (fillPending b y s) := by
  have hpending : (fillPending b y (fillPending a x s)).pending = (fillPending a x (fillPending b y s)).pending := by
    simp only [fillPending_pending, setPending, pendingAt_fillPending_other x h hab.symm,
      pendingAt_fillPending_other y h hab]
    exact tableSet_comm h (addr_toNat_ne hab) ⟨Nat.zero_le _, addr_lt a⟩ ⟨Nat.zero_le _, addr_lt b⟩ _ _
  exact congrArg (fun m => { s with pending := m }) hpending

/-- Settles O39: neither fill changes whether the other's completion matches, and the fills commute. -/
theorem completionOrderDoesNotMatter : Obligations.CompletionOrderDoesNotMatter := by
  intro s t u a b x y hwf hab hx hy
  obtain ⟨hf, hmatch, rfl⟩ := execCplFill_next hx
  obtain ⟨-, hmatch', rfl⟩ := execCplFill_next hy
  rw [cplMatch, pendingAt_fillPending_other x hwf hab.symm] at hmatch'
  refine ⟨fillPending b y s, exec_cplFill y hf hmatch', ?_⟩
  rw [fillPending_comm x y hwf hab]
  exact exec_cplFill x hf (by rwa [cplMatch, pendingAt_fillPending_other y hwf hab])

/-- An invalid head placeholder makes the DRAIN slot wait (R146). -/
theorem drainSlot_of_head_invalid {a : Addr} {as : List Addr} {e : ReadBeat} {es : List ReadBeat}
    (hm : s.cfg.mode = .timing) (hoq : s.oq = a :: as) (hpending : pendingAt s a = e :: es) (he : e.valid = false) :
    drainSlot s = noDrain s := by
  simp [drainSlot_timing hm, drainTiming, hoq, hpending, he]

/-- The R slot takes at most the head of the primary queue (R124 to R126). -/
theorem rSlot_pq_suffix (inp : Inputs) (s : State) : (rSlot inp s).pq <:+ s.pq := by
  obtain ⟨-, -, h⟩ | ⟨-, ⟨-, h⟩ | ⟨x, xs, hq, h⟩⟩ := rSlot_cases inp s
  · rw [h]
  · rw [h, advanceFill, shift_pq]
  · rw [h, advanceWith, shift_pq, hq]
    exact List.suffix_cons x xs

/-- With an invalid head placeholder the slots after PAIR release nothing (R146, R155). -/
theorem evaluateBack_of_head_invalid {a : Addr} {as : List Addr} {e : ReadBeat} {es : List ReadBeat} (inp : Inputs)
    (hm : s.cfg.mode = .timing) (hoq : s.oq = a :: as) (hpending : pendingAt s a = e :: es) (he : e.valid = false) :
    (evaluateBack inp s).oq = s.oq ∧ (evaluateBack inp s).inflight = s.inflight ∧
      (evaluateBack inp s).pending = s.pending ∧ (evaluateBack inp s).pq <:+ s.pq ∧
      (evaluateBack inp s).drained = false := by
  have hpq := rSlot_pq_suffix inp (arrdySlot (noDrain s))
  rw [arrdySlot_frame] at hpq
  rw [evaluateBack, drainSlot_of_head_invalid hm hoq hpending he, bSlot_frame, rSlot_frame, arrdySlot_frame]
  exact ⟨rfl, rfl, rfl, hpq, rfl⟩

/-- Settles O40: the slots up to PAIR put the beats asked for behind those outstanding, which leaves the head and its
placeholder in front, and with those the later slots release nothing. -/
theorem headOfLineBlocks : Obligations.HeadOfLineBlocks := by
  intro inp s t a as e es hm hwf hoq hpending he h
  obtain ⟨-, rfl⟩ := execTick_next h
  obtain ⟨hfoq, hfinflight, hfpending⟩ := evaluateFront_table (inp := inp) hm
  have hfpq : (evaluateFront inp s).pq = s.pq := by simp [evaluateFront_pq, acceptedBeats, hm]
  have hfhead := hfpending hwf a
  rw [registerBeats_oq] at hfoq
  rw [registerBeats_inflight] at hfinflight
  rw [pendingAt_registerBeats _ _ hwf, hpending, List.cons_append] at hfhead
  have hfmode : (evaluateFront inp s).cfg.mode = .timing := by rwa [(evaluateFront_slotFrame inp s).cfg]
  have hmore : ∃ more, (evaluateFront inp s).oq = s.oq ++ more ∧
      (evaluateFront inp s).inflight = s.inflight + more.length := ⟨_, hfoq, by rw [hfinflight, List.length_map]⟩
  cases hfault : faulted (evaluateFront inp s) with
  | true =>
    have hend : evaluate inp s = evaluateFront inp s := by simp [evaluate, hfault]
    rw [hend]
    exact ⟨hmore, ⟨_, hfhead⟩, ⟨[], hfpq.symm⟩, fun hnone => by simp [faulted, hnone] at hfault⟩
  | false =>
    have hend : evaluate inp s = evaluateBack inp (evaluateFront inp s) := by simp [evaluate, hfault]
    obtain ⟨hboq, hbinflight, hbpending, hbpq, hbdrained⟩ :=
      evaluateBack_of_head_invalid inp hfmode (by rw [hfoq, hoq, List.cons_append]) hfhead he
    obtain ⟨gone, hgone⟩ := hfpq ▸ hbpq
    rw [hend, hboq, hbinflight, pendingAt, hbpending]
    exact ⟨hmore, ⟨_, hfhead⟩, ⟨gone, hgone.symm⟩, fun _ => hbdrained⟩

end Sys2Proof.Machine
end

section
/-!
The orchestrator's rows: FUNCTIONAL-mode reads and the idle AR rows (R163, R165), the faulted tick (R162), and the
write responses over a tick (R167 to R170).
-/

namespace Sys2Proof.Machine

variable {s : State}

/-- Beat `k` of a FUNCTIONAL-mode burst is read from the Block Store at its own address (R163, R100). -/
theorem blockBeats_getElem? (p : AddrReq) (s : State) {k : Nat} (hk : k ≤ p.len.toNat) :
    (blockBeats p.id s (burstOf s.cfg.dataBytes p))[k]? = some
      (readBeat p.id (decide (k = p.len.toNat))
        (blockBeat s (addrAdd (align s.cfg.dataBytes p.addr) (k * s.cfg.dataBytes)))) := by
  rw [blockBeats, List.getElem?_map, burstOf_getElem? _ p hk]
  rfl

theorem blockBeats_length (id : Id) (s : State) (bs : List (Addr × Bool)) :
    (blockBeats id s bs).length = bs.length := List.length_map _

/-- A beat read from the Block Store is one bus width of words (R58). -/
theorem blockBeat_length (s : State) (a : Addr) : (blockBeat s a).length = s.cfg.nwords := by
  simp [blockBeat, memRead, Params.nwords]

/-- Settles O30: the accepted burst is `blockBeats`, and `pushGap` puts the gap behind it. -/
theorem functionalReadResult : Obligations.FunctionalReadResult := by
  intro p s hdb
  refine ⟨blockBeats p.id s (burstOf s.cfg.dataBytes p), rfl, ?_, fun k hk => ?_⟩
  · rw [blockBeats_length, burstOf_length]
  · refine ⟨_, blockBeats_getElem? p s hk, blockBeat_length s _, fun j hj => ?_⟩
    rw [lane_blockBeat hdb _ hj, addrAdd_addrAdd]

/-- Outside TIMING mode an idle AR slot raises ARREADY (R165). -/
theorem restAr_of_ne_timing (hm : s.cfg.mode ≠ .timing) : restAr s = { s with arready := true } := by
  unfold restAr
  split
  · rfl
  · rfl
  · next htiming => exact absurd htiming hm

/-- In TIMING mode ARREADY is the ARRDY slot's, and an idle AR slot does nothing (R165). -/
theorem restAr_of_timing (hm : s.cfg.mode = .timing) : restAr s = s := by simp [restAr, hm]

/-- Settles O33: both rows are `restAr`. -/
theorem arIdleRowsResult : Obligations.ArIdleRowsResult := by
  intro s
  have hrows : exec .arIdle s = .next (restAr s) ∧ exec .arIdleNotready s = .next (restAr s) := ⟨rfl, rfl⟩
  refine ⟨fun hm => ?_, fun hm => ?_⟩
  · rwa [restAr_of_ne_timing hm] at hrows
  · rwa [restAr_of_timing hm] at hrows

/-- Settles O50: the row is selected by the fault alone, and answers the state it was given. -/
theorem faultedTickResult : Obligations.FaultedTickResult := by
  intro s hs
  have hf : faulted s = true := by simp [faulted, hs]
  simp [exec, execTickFaulted, hf]

theorem headId_eq_head? (bq : List BEntry) : headId bq = (bq.head?.map BEntry.id).getD 0 := by
  cases bq <;> rfl

/-- Settles O48: B_HOLD and B_IDLE are `updateB`, and B_XFER is `updateB` once the presented response is taken. -/
theorem bRowsResult : Obligations.BRowsResult := by
  intro s
  simp only [← headId_eq_head?]
  refine ⟨fun e es hbq => ?_, rfl, rfl⟩
  have hrow : exec .bXfer s = .next (popB s) := rfl
  rw [hrow, popB, hbq]
  rfl

/-- The PAIR slot queues at most one response, at the tail: that of a burst's last beat (R108). -/
theorem pairSlot_bq (s : State) : ∃ added, added.length ≤ 1 ∧ (pairSlot s).bq = s.bq ++ added := by
  have hnone : ∃ added : List BEntry, added.length ≤ 1 ∧ s.bq = s.bq ++ added :=
    ⟨[], Nat.zero_le 1, (List.append_nil _).symm⟩
  obtain ⟨-, h⟩ | ⟨e, es, w, ws, -, -, ⟨-, -, h⟩ | ⟨-, -, h⟩ | ⟨-, -, h⟩ | ⟨-, -, h⟩⟩ := pairSlot_cases s
  · rw [h]; exact hnone
  · exact ⟨[{ id := e.id }], le_rfl, by rw [h, pairLast_frame]⟩
  · rw [h]; exact hnone
  · rw [h]; exact hnone
  · rw [h, pairBeat_frame]; exact hnone

/-- Up to PAIR a tick queues what its PAIR slot queues, and BVALID stands as it stood (R161). -/
theorem evaluateFront_response (inp : Inputs) (s : State) :
    (evaluateFront inp s).bvalid = s.bvalid ∧
      ∃ added, added.length ≤ 1 ∧ (evaluateFront inp s).bq = s.bq ++ added := by
  have hbq := pairSlot_bq (beforePair inp s)
  rw [beforePair_frame] at hbq
  refine ⟨?_, ?_⟩
  · rw [evaluateFront_eq, pairSlot_frame, beforePair_frame]
  · rw [evaluateFront_eq, beforePair_frame]
    exact hbq

/-- The B slot takes the presented response off the queue's front when the manager is ready, and no other (R167 to R169). -/
theorem bSlot_bq (inp : Inputs) (s : State) :
    (bSlot inp s).bq = if s.bvalid && inp.bready then s.bq.tail else s.bq := by
  unfold bSlot
  split <;> rfl

/-- After PAIR only the B slot touches the response queue, and it reads BVALID as PAIR left it (R161). -/
theorem evaluateBack_bq (inp : Inputs) (s : State) :
    (evaluateBack inp s).bq = if s.bvalid && inp.bready then s.bq.tail else s.bq := by
  rw [evaluateBack, bSlot_bq, rSlot_frame, arrdySlot_frame, drainSlot_frame]

/-- Settles O49: PAIR adds behind the queue, and the B slot takes from its front and presents what is then the head. -/
theorem responsesInOrder : Obligations.ResponsesInOrder := by
  intro inp s t h hfault
  obtain ⟨-, rfl⟩ := execTick_next h
  obtain ⟨hbvalid, added, hlength, hbq⟩ := evaluateFront_response inp s
  rw [evaluate_of_fault_none hfault]
  exact ⟨bSlot_responsePresented inp _, added, hlength, by rw [evaluateBack_bq, hbvalid, hbq]⟩

end Sys2Proof.Machine
end

section
/-!
Where a fault comes from and what clears one (R200, R203, R204): the fault register after each operation.
-/

namespace Sys2Proof.Machine

/-- The fault kinds that an operation can raise (R200, R203, R204). -/
inductive Raises : Instr → FaultKind → Prop
  | tickEarly (inp : Inputs) : Raises (.tick inp) .wlastEarly
  | tickMissing (inp : Inputs) : Raises (.tick inp) .wlastMissing
  | early : Raises .wfaultEarly .wlastEarly
  | missing : Raises .wfaultMissing .wlastMissing
  | unexpected (a : Addr) : Raises (.cplUnexpected a) .unexpectedCompletion

variable {i : Instr} {k : FaultKind} {s t : State}

theorem Raises.ne_none (h : Raises i k) : k ≠ .none := by
  cases h <;> decide

/-- The sources of a fault, as the rule lists them (R203). -/
theorem Raises.sources (h : Raises i k) :
    (∃ inp, i = .tick inp ∧ (k = .wlastEarly ∨ k = .wlastMissing)) ∨ (i = .wfaultEarly ∧ k = .wlastEarly) ∨
      (i = .wfaultMissing ∧ k = .wlastMissing) ∨ ∃ a, i = .cplUnexpected a ∧ k = .unexpectedCompletion := by
  cases h with
  | tickEarly inp => exact .inl ⟨inp, rfl, .inl rfl⟩
  | tickMissing inp => exact .inl ⟨inp, rfl, .inr rfl⟩
  | early => exact .inr (.inl ⟨rfl, rfl⟩)
  | missing => exact .inr (.inr (.inl ⟨rfl, rfl⟩))
  | unexpected a => exact .inr (.inr (.inr ⟨a, rfl, rfl⟩))

@[simp] theorem acceptA_fault (p : AddrReq) (s : State) : (acceptA p s).fault = s.fault := by rw [acceptA_frame]

@[simp] theorem acceptT_fault (p : AddrReq) (s : State) : (acceptT p s).fault = s.fault := by
  rw [acceptT, registerBeats_frame]

@[simp] theorem pairBeat_fault (e : AwEntry) (es : List AwEntry) (w : WBeat) (ws : List WBeat) (s : State) :
    (pairBeat e es w ws s).fault = s.fault := by rw [pairBeat_frame]

@[simp] theorem pairLast_fault (e : AwEntry) (es : List AwEntry) (w : WBeat) (ws : List WBeat) (s : State) :
    (pairLast e es w ws s).fault = s.fault := by rw [pairLast_frame]

@[simp] theorem advanceWith_fault (x : ReadBeat) (xs : List ReadBeat) (s : State) :
    (advanceWith x xs s).fault = s.fault := by simp [advanceWith]

@[simp] theorem advanceFill_fault (s : State) : (advanceFill s).fault = s.fault := by simp [advanceFill]

@[simp] theorem beforePair_fault (inp : Inputs) (s : State) : (beforePair inp s).fault = s.fault := by
  rw [beforePair_frame]

@[simp] theorem evaluateBack_fault (inp : Inputs) (s : State) : (evaluateBack inp s).fault = s.fault := by
  rw [evaluateBack, bSlot_frame, rSlot_frame, arrdySlot_frame, drainSlot_frame]

/-- The PAIR slot keeps the fault register or raises one of the two WLAST faults (R107 to R111). -/
theorem pairSlot_fault_cases (s : State) :
    (pairSlot s).fault = s.fault ∨ (pairSlot s).fault = .wlastEarly ∨ (pairSlot s).fault = .wlastMissing := by
  obtain ⟨-, h⟩ | ⟨e, es, w, ws, -, -, ⟨-, -, h⟩ | ⟨-, -, h⟩ | ⟨-, -, h⟩ | ⟨-, -, h⟩⟩ := pairSlot_cases s <;>
    simp [h]

/-- The fault register after a tick is the one that PAIR leaves (R161, R201). -/
theorem evaluate_fault (inp : Inputs) (s : State) : (evaluate inp s).fault = (pairSlot (beforePair inp s)).fault := by
  rw [← evaluateFront_eq, evaluate]
  split
  · rfl
  · exact evaluateBack_fault inp _

/-- A tick keeps the fault register or raises a fault that a tick can raise. -/
theorem evaluate_fault_cases (inp : Inputs) (s : State) :
    (evaluate inp s).fault = s.fault ∨ Raises (.tick inp) (evaluate inp s).fault := by
  rw [evaluate_fault]
  obtain h | h | h := pairSlot_fault_cases (beforePair inp s)
  · exact .inl (by rw [h, beforePair_fault])
  · exact .inr (by rw [h]; exact .tickEarly inp)
  · exact .inr (by rw [h]; exact .tickMissing inp)

/-- A RESET that completes leaves no fault (R204, R220). -/
theorem fault_none_of_reset (hreset : IsReset i) (h : exec i s = .next t) : t.fault = .none := by
  obtain ⟨p, rfl | rfl | rfl⟩ := hreset
  all_goals
    obtain ⟨-, rfl⟩ := resetTo_next h
    rfl

/-- What an operation other than a RESET makes of the fault register (R203): it is kept, or left with a fault that the
operation can raise. A tick may do either. -/
theorem exec_fault_cases (hreset : ¬ IsReset i) (h : exec i s = .next t) : t.fault = s.fault ∨ Raises i t.fault := by
  cases i with
  | tick inp => obtain ⟨-, rfl⟩ := execTick_next h; exact evaluate_fault_cases inp s
  | wfaultEarly => cases h; exact .inr .early
  | wfaultMissing => cases h; exact .inr .missing
  | cplUnexpected a => obtain ⟨-, -, rfl⟩ := execCplUnexpected_next h; exact .inr (.unexpected a)
  | resetF p => exact absurd ⟨p, .inl rfl⟩ hreset
  | resetA p => exact absurd ⟨p, .inr (.inl rfl)⟩ hreset
  | resetT p => exact absurd ⟨p, .inr (.inr rfl)⟩ hreset
  | resetReserved => exact absurd h (by simp [exec, execResetReserved])
  | tickFaulted => obtain ⟨-, rfl⟩ := execTickFaulted_next h; exact .inl rfl
  | awAccept _ | awIdle | awIdleNotready | wAccept _ | wIdle | wIdleNotready | arAcceptF _ | wpairIdleNoaw | wpairIdleNow
  | drainWait | drainEmpty | drainSkip | arrdyTDrained | arrdyTOpen | arrdyTFull | arrdySkip | rHold | bXfer | bHold
  | bIdle | queryInflight => cases h; exact .inl rfl
  | arAcceptA p => cases h; exact .inl (acceptA_fault p s)
  | arAcceptT p => cases h; exact .inl (acceptT_fault p s)
  | arIdle | arIdleNotready => cases h; exact .inl (restAr_fault s)
  | wpairBeat => obtain ⟨e, es, w, ws, -, -, rfl⟩ := execWpairBeat_next h; exact .inl (pairBeat_fault e es w ws s)
  | wpairLast => obtain ⟨e, es, w, ws, -, -, rfl⟩ := execWpairLast_next h; exact .inl (pairLast_fault e es w ws s)
  | drainBeat => obtain ⟨_, _, _, _, -, -, rfl⟩ := execDrainBeat_next h; exact .inl rfl
  | drainLast => obtain ⟨_, _, _, _, -, -, rfl⟩ := execDrainLast_next h; exact .inl rfl
  | rXferShift => obtain ⟨x, xs, -, rfl⟩ := execRShift_next (.inl h); exact .inl (advanceWith_fault x xs s)
  | rFreeShift => obtain ⟨x, xs, -, rfl⟩ := execRShift_next (.inr h); exact .inl (advanceWith_fault x xs s)
  | rXferFill | rFreeFill => cases h; exact .inl (advanceFill_fault s)
  | cplFill _ _ => obtain ⟨-, -, rfl⟩ := execCplFill_next h; exact .inl rfl
  | cplFaulted => obtain ⟨-, rfl⟩ := execCplFaulted_next h; exact .inl rfl

/-- Settles O52: a RESET leaves no fault, and every other operation keeps the fault register or leaves in it a fault that it
can raise, which is never "no fault". -/
theorem faultsComeAndGoByRule : Obligations.FaultsComeAndGoByRule := by
  intro i s t h
  by_cases hreset : IsReset i
  · exact ⟨fun _ _ => hreset, fun _ ht => absurd (fault_none_of_reset hreset h) ht⟩
  · obtain hkept | hraises := exec_fault_cases hreset h
    · exact ⟨fun hs ht => absurd (hkept.symm.trans ht) hs, fun hs ht => absurd (hkept.trans hs) ht⟩
    · exact ⟨fun _ ht => absurd ht hraises.ne_none, fun _ _ => hraises.sources⟩

end Sys2Proof.Machine
end

section
/-!
What a RESET builds and what it refuses (R220, R221).
-/

namespace Sys2Proof.Machine

/-- ARREADY at reset (R220, R151): low only in TIMING mode with a zero window. -/
theorem resetArready_iff (c : Config) :
    resetArready c = true ↔ (c.mode = .timing → 1 ≤ min c.maxInflight c.inflightCeil) := by
  unfold resetArready
  cases c.mode with
  | functional | atomic => simp
  | timing => simp only [decide_eq_true_eq, forall_const]; rfl

/-- The built block has R220's reset values, for every configuration and from every state. -/
theorem buildBlock_freshBlock (c : Config) (s : State) : FreshBlock c s (buildBlock c s) where
  cfg := rfl
  queues := ⟨rfl, rfl, rfl, rfl⟩
  latencyLength := List.length_replicate
  latencyBoot b hb := by
    obtain rfl : b = bootBeat c.nwords := List.eq_of_mem_replicate hb
    exact ⟨rfl, rfl, rfl, rfl⟩
  routBoot := ⟨rfl, rfl, rfl, rfl⟩
  pending _ := rfl
  order := ⟨rfl, rfl⟩
  mem _ := rfl
  fault := rfl
  events := rfl
  awready := rfl
  wready := rfl
  arready := resetArready_iff c
  response := ⟨rfl, rfl⟩
  cycle := rfl
  environment := ⟨rfl, rfl⟩

/-- A legal RESET builds a block with R220's reset values, whatever its mode. -/
theorem resetTo_freshBlock {p : Params} (m : Mode) (s : State) (hl : p.legal = true) :
    ∃ t, resetTo m p s = .next t ∧ FreshBlock { toParams := p, mode := m } s t :=
  ⟨_, resetTo_of_legal m s hl, buildBlock_freshBlock _ s⟩

/-- Settles O12: each RESET row is the construction with the row's own mode. -/
theorem resetBuildsTheFreshBlock : Obligations.ResetBuildsTheFreshBlock := by
  intro p s hl
  exact ⟨resetTo_freshBlock .functional s hl, resetTo_freshBlock .atomic s hl, resetTo_freshBlock .timing s hl⟩

/-- The model's test for a power of two: the number is two to the power of its own logarithm. -/
theorem two_pow_log2_eq_self_iff (n : Nat) : 2 ^ n.log2 = n ↔ ∃ k, n = 2 ^ k := by
  constructor
  · intro h
    exact ⟨n.log2, h.symm⟩
  · rintro ⟨k, rfl⟩
    rw [Nat.log2_two_pow]

/-- The model's check of a configuration accepts R5's legal values and no others. -/
theorem legal_iff_legalValues (p : Params) : p.legal = true ↔ LegalValues p := by
  simp only [Params.legal, LegalValues, Bool.and_eq_true, decide_eq_true_eq, two_pow_log2_eq_self_iff, and_assoc]

/-- A RESET outside the legal values is refused, whatever its mode (R221). -/
theorem resetTo_of_illegal {p : Params} (m : Mode) (s : State) (hl : ¬ LegalValues p) :
    resetTo m p s = .refused .illegalConfig :=
  if_neg (mt (legal_iff_legalValues p).1 hl)

/-- Settles O13: the check of R221 is R5's legal values, and the RESET rows differ only in the mode that they build. -/
theorem illegalConfigurationsAreRefused : Obligations.IllegalConfigurationsAreRefused := by
  intro p s
  refine ⟨fun hillegal => ?_, fun hvalues => ?_, rfl⟩
  · exact ⟨resetTo_of_illegal .functional s hillegal, resetTo_of_illegal .atomic s hillegal,
      resetTo_of_illegal .timing s hillegal⟩
  · have hl : p.legal = true := (legal_iff_legalValues p).2 hvalues
    exact ⟨⟨_, resetTo_of_legal .functional s hl⟩, ⟨_, resetTo_of_legal .atomic s hl⟩,
      ⟨_, resetTo_of_legal .timing s hl⟩⟩

end Sys2Proof.Machine
end
